-- ==== Sys2Proof/Word.lean ====
section
/-! DEFINITION. The machine's two word types and the names its operand fields select (`00_scope.md` R6; `10_state.md` R27 to R30). -/

namespace Sys2Proof

/-- A data register or one byte of memory (R6). -/
abbrev Byte := BitVec 8

/-- A register pair, SP, PC or a memory address (R6). -/
abbrev Word := BitVec 16

/-- The seven 8-bit registers an operand field can name (R27). F is reached only through AF and the flags. -/
inductive Reg8 where
  | b | c | d | e | h | l | a
deriving DecidableEq, Repr

/-- The 8-bit operand `r8[k]`: a named register or the byte in memory at HL (R27). -/
inductive Operand8 where
  | reg (r : Reg8)
  | memHL
deriving DecidableEq, Repr

/-- The pair `rp[p]` of the 16-bit load, INC, DEC and ADD HL forms (R28). -/
inductive Pair where
  | bc | de | hl | sp
deriving DecidableEq, Repr

/-- The pair `rp2[p]` of PUSH and POP (R29). -/
inductive StackPair where
  | bc | de | hl | af
deriving DecidableEq, Repr

/-- The condition of JP, JR, CALL and RET (R30). -/
inductive Cond where
  | nz | z | nc | c
deriving DecidableEq, Repr

/-- The eight accumulator operations, in the order of the field `o` (`30_encoding.md` R71). -/
inductive AluOp where
  | add | adc | sub | sbc | and | xor | or | cp
deriving DecidableEq, Repr

/-- The eight rows of the CB rotate and shift block (`30_encoding.md` R80). -/
inductive RotOp where
  | rlc | rrc | rl | rr | sla | sra | swap | srl
deriving DecidableEq, Repr

end Sys2Proof
end

