-- ==== Sys2Proof/Config.lean ====
section
/-! DEFINITION. What an implementation fixes: the parameters the model takes as arguments (`00_scope.md` R8), and the byte an unlisted address reads as. The parameters' defaults stand in Machine/Params.lean. -/

namespace Sys2Proof

/-- EI_DELAY_MODE: when the enable that EI requested takes effect (`92_eei_decisions.md` D7). -/
inductive EiDelayMode where
  | nextStep
  | afterNextInstruction
deriving DecidableEq, Repr

/-- MID_STEP_ORDER: where the timer tick stands in a mid-instruction step (D20). -/
inductive MidStepOrder where
  | timerFirst
  | timerLast
deriving DecidableEq, Repr

/-- STOP_LENGTH: how many bytes STOP takes (D12). -/
inductive StopLength where
  | one
  | two
deriving DecidableEq, Repr

/-- RESET_REGS: the initial register pairs, SP and PC (D10). -/
structure ResetRegs where
  af : Word
  bc : Word
  de : Word
  hl : Word
  sp : Word
  pc : Word
deriving DecidableEq, Repr

/-- The parameters of `00_scope.md` R8, all but PENDING_MASK, whose values other than 0x1F the spec refuses
(`93_implementation_defined.md` I19). A claim proved for every `Params` holds for every machine of the spec. -/
structure Params where
  /-- MEM0: the initial contents of the 64 KiB store (D1, D34). -/
  mem0 : Word → Byte
  /-- IE_ADDR and IF_ADDR (D3). -/
  ieAddr : Word
  ifAddr : Word
  /-- DIV_ADDR, TIMA_ADDR, TMA_ADDR and TAC_ADDR (D4). -/
  divAddr : Word
  timaAddr : Word
  tmaAddr : Word
  tacAddr : Word
  eiDelay : EiDelayMode
  serviceClearsHalt : Bool
  midOrder : MidStepOrder
  stopLength : StopLength
  /-- CYCLE_COST: the base cost of each opcode byte, and the CB cost of each CB byte (D14, D15). -/
  opcodeCost : Byte → Nat
  cbCost : Byte → Nat
  /-- ILLEGAL_SET: the unprefixed bytes with no table entry (D9). -/
  illegalSet : List Byte
  resetRegs : ResetRegs

/-- RESET_REGS at its default (`10_state.md` R42; log entry 2). -/
def Config.resetRegs : ResetRegs where
  af := 0x01B0
  bc := 0x0013
  de := 0x00D8
  hl := 0x014D
  sp := 0xFFFE
  pc := 0x0100

/-- What an address reads as that memory does not list. DESIGN CHOICE (log entry 1), unsafe: the spec's MEM0 is a
launch input with no default (R8). Every MEM0 is some value of the field `mem`, so only `State.reset` rests on it. -/
def Config.unlistedByte : Byte := 0x00

end Sys2Proof
end

