-- ==== Sys2Proof/Syntax.lean ====
section
/-! DEFINITION. The instructions: one constructor for each of the 512 rows of `opcode_table.json`, with the operand bytes that follow the opcode as fields (`30_encoding.md` R70). The rows with an operand come first, each group in the table's order: Lean's compiler numbers constructors with fields up to 244 only. -/

namespace Sys2Proof

/-- One row of the opcode table each. A field is the row's operand: `n` an unsigned immediate of 8 or 16 bits, `e` the
raw byte of a signed displacement, `pad` STOP's ignored byte (R72). `prefixCb` is the handler of the byte 0xCB (R106),
not an instruction on its own (R225). The `illegal` rows are the bytes of ILLEGAL_SET (R79). -/
inductive Instr where
  | ldBCN16 (n : Word)
  | ldBN8 (n : Byte)
  | ldMemN16SP (n : Word)
  | ldCN8 (n : Byte)
  | stop (pad : Byte)
  | ldDEN16 (n : Word)
  | ldDN8 (n : Byte)
  | jrE8 (e : Byte)
  | ldEN8 (n : Byte)
  | jrNZE8 (e : Byte)
  | ldHLN16 (n : Word)
  | ldHN8 (n : Byte)
  | jrZE8 (e : Byte)
  | ldLN8 (n : Byte)
  | jrNCE8 (e : Byte)
  | ldSPN16 (n : Word)
  | ldMemHLN8 (n : Byte)
  | jrCE8 (e : Byte)
  | ldAN8 (n : Byte)
  | jpNZN16 (n : Word)
  | jpN16 (n : Word)
  | callNZN16 (n : Word)
  | addAN8 (n : Byte)
  | jpZN16 (n : Word)
  | callZN16 (n : Word)
  | callN16 (n : Word)
  | adcAN8 (n : Byte)
  | jpNCN16 (n : Word)
  | callNCN16 (n : Word)
  | subAN8 (n : Byte)
  | jpCN16 (n : Word)
  | callCN16 (n : Word)
  | sbcAN8 (n : Byte)
  | ldhMemN8A (n : Byte)
  | andAN8 (n : Byte)
  | addSPE8 (e : Byte)
  | ldMemN16A (n : Word)
  | xorAN8 (n : Byte)
  | ldhAMemN8 (n : Byte)
  | orAN8 (n : Byte)
  | ldHLSPE8 (e : Byte)
  | ldAMemN16 (n : Word)
  | cpAN8 (n : Byte)
  | nop
  | ldMemBCA
  | incBC
  | incB
  | decB
  | rlca
  | addHLBC
  | ldAMemBC
  | decBC
  | incC
  | decC
  | rrca
  | ldMemDEA
  | incDE
  | incD
  | decD
  | rla
  | addHLDE
  | ldAMemDE
  | decDE
  | incE
  | decE
  | rra
  | ldMemHLIncA
  | incHL
  | incH
  | decH
  | daa
  | addHLHL
  | ldAMemHLInc
  | decHL
  | incL
  | decL
  | cpl
  | ldMemHLDecA
  | incSP
  | incMemHL
  | decMemHL
  | scf
  | addHLSP
  | ldAMemHLDec
  | decSP
  | incA
  | decA
  | ccf
  | ldBB
  | ldBC
  | ldBD
  | ldBE
  | ldBH
  | ldBL
  | ldBMemHL
  | ldBA
  | ldCB
  | ldCC
  | ldCD
  | ldCE
  | ldCH
  | ldCL
  | ldCMemHL
  | ldCA
  | ldDB
  | ldDC
  | ldDD
  | ldDE
  | ldDH
  | ldDL
  | ldDMemHL
  | ldDA
  | ldEB
  | ldEC
  | ldED
  | ldEE
  | ldEH
  | ldEL
  | ldEMemHL
  | ldEA
  | ldHB
  | ldHC
  | ldHD
  | ldHE
  | ldHH
  | ldHL
  | ldHMemHL
  | ldHA
  | ldLB
  | ldLC
  | ldLD
  | ldLE
  | ldLH
  | ldLL
  | ldLMemHL
  | ldLA
  | ldMemHLB
  | ldMemHLC
  | ldMemHLD
  | ldMemHLE
  | ldMemHLH
  | ldMemHLL
  | halt
  | ldMemHLA
  | ldAB
  | ldAC
  | ldAD
  | ldAE
  | ldAH
  | ldAL
  | ldAMemHL
  | ldAA
  | addAB
  | addAC
  | addAD
  | addAE
  | addAH
  | addAL
  | addAMemHL
  | addAA
  | adcAB
  | adcAC
  | adcAD
  | adcAE
  | adcAH
  | adcAL
  | adcAMemHL
  | adcAA
  | subAB
  | subAC
  | subAD
  | subAE
  | subAH
  | subAL
  | subAMemHL
  | subAA
  | sbcAB
  | sbcAC
  | sbcAD
  | sbcAE
  | sbcAH
  | sbcAL
  | sbcAMemHL
  | sbcAA
  | andAB
  | andAC
  | andAD
  | andAE
  | andAH
  | andAL
  | andAMemHL
  | andAA
  | xorAB
  | xorAC
  | xorAD
  | xorAE
  | xorAH
  | xorAL
  | xorAMemHL
  | xorAA
  | orAB
  | orAC
  | orAD
  | orAE
  | orAH
  | orAL
  | orAMemHL
  | orAA
  | cpAB
  | cpAC
  | cpAD
  | cpAE
  | cpAH
  | cpAL
  | cpAMemHL
  | cpAA
  | retNZ
  | popBC
  | pushBC
  | rst00
  | retZ
  | ret
  | prefixCb
  | rst08
  | retNC
  | popDE
  | illegalD3
  | pushDE
  | rst10
  | retC
  | reti
  | illegalDB
  | illegalDD
  | rst18
  | popHL
  | ldMemCA
  | illegalE3
  | illegalE4
  | pushHL
  | rst20
  | jpHL
  | illegalEB
  | illegalEC
  | illegalED
  | rst28
  | popAF
  | ldAMemC
  | di
  | illegalF4
  | pushAF
  | rst30
  | ldSPHL
  | ei
  | illegalFC
  | illegalFD
  | rst38
  | rlcB
  | rlcC
  | rlcD
  | rlcE
  | rlcH
  | rlcL
  | rlcMemHL
  | rlcA
  | rrcB
  | rrcC
  | rrcD
  | rrcE
  | rrcH
  | rrcL
  | rrcMemHL
  | rrcA
  | rlB
  | rlC
  | rlD
  | rlE
  | rlH
  | rlL
  | rlMemHL
  | rlA
  | rrB
  | rrC
  | rrD
  | rrE
  | rrH
  | rrL
  | rrMemHL
  | rrA
  | slaB
  | slaC
  | slaD
  | slaE
  | slaH
  | slaL
  | slaMemHL
  | slaA
  | sraB
  | sraC
  | sraD
  | sraE
  | sraH
  | sraL
  | sraMemHL
  | sraA
  | swapB
  | swapC
  | swapD
  | swapE
  | swapH
  | swapL
  | swapMemHL
  | swapA
  | srlB
  | srlC
  | srlD
  | srlE
  | srlH
  | srlL
  | srlMemHL
  | srlA
  | bit0B
  | bit0C
  | bit0D
  | bit0E
  | bit0H
  | bit0L
  | bit0MemHL
  | bit0A
  | bit1B
  | bit1C
  | bit1D
  | bit1E
  | bit1H
  | bit1L
  | bit1MemHL
  | bit1A
  | bit2B
  | bit2C
  | bit2D
  | bit2E
  | bit2H
  | bit2L
  | bit2MemHL
  | bit2A
  | bit3B
  | bit3C
  | bit3D
  | bit3E
  | bit3H
  | bit3L
  | bit3MemHL
  | bit3A
  | bit4B
  | bit4C
  | bit4D
  | bit4E
  | bit4H
  | bit4L
  | bit4MemHL
  | bit4A
  | bit5B
  | bit5C
  | bit5D
  | bit5E
  | bit5H
  | bit5L
  | bit5MemHL
  | bit5A
  | bit6B
  | bit6C
  | bit6D
  | bit6E
  | bit6H
  | bit6L
  | bit6MemHL
  | bit6A
  | bit7B
  | bit7C
  | bit7D
  | bit7E
  | bit7H
  | bit7L
  | bit7MemHL
  | bit7A
  | res0B
  | res0C
  | res0D
  | res0E
  | res0H
  | res0L
  | res0MemHL
  | res0A
  | res1B
  | res1C
  | res1D
  | res1E
  | res1H
  | res1L
  | res1MemHL
  | res1A
  | res2B
  | res2C
  | res2D
  | res2E
  | res2H
  | res2L
  | res2MemHL
  | res2A
  | res3B
  | res3C
  | res3D
  | res3E
  | res3H
  | res3L
  | res3MemHL
  | res3A
  | res4B
  | res4C
  | res4D
  | res4E
  | res4H
  | res4L
  | res4MemHL
  | res4A
  | res5B
  | res5C
  | res5D
  | res5E
  | res5H
  | res5L
  | res5MemHL
  | res5A
  | res6B
  | res6C
  | res6D
  | res6E
  | res6H
  | res6L
  | res6MemHL
  | res6A
  | res7B
  | res7C
  | res7D
  | res7E
  | res7H
  | res7L
  | res7MemHL
  | res7A
  | set0B
  | set0C
  | set0D
  | set0E
  | set0H
  | set0L
  | set0MemHL
  | set0A
  | set1B
  | set1C
  | set1D
  | set1E
  | set1H
  | set1L
  | set1MemHL
  | set1A
  | set2B
  | set2C
  | set2D
  | set2E
  | set2H
  | set2L
  | set2MemHL
  | set2A
  | set3B
  | set3C
  | set3D
  | set3E
  | set3H
  | set3L
  | set3MemHL
  | set3A
  | set4B
  | set4C
  | set4D
  | set4E
  | set4H
  | set4L
  | set4MemHL
  | set4A
  | set5B
  | set5C
  | set5D
  | set5E
  | set5H
  | set5L
  | set5MemHL
  | set5A
  | set6B
  | set6C
  | set6D
  | set6E
  | set6H
  | set6L
  | set6MemHL
  | set6A
  | set7B
  | set7C
  | set7D
  | set7E
  | set7H
  | set7L
  | set7MemHL
  | set7A
deriving DecidableEq, Repr

end Sys2Proof
end

