-- ==== Sys2Proof/WellFormed.lean ====
section
/-! DEFINITION. Which instruction terms stand for an executable instruction of the spec. -/

namespace Sys2Proof

/-- The term is complete: it is not the bare prefix 0xCB, which "is not an instruction on its own" (`47_misc_system.md` R225). -/
def Instr.selfContained : Instr → Bool
  | .prefixCb => false
  | _ => true

/-- The term has a dispatch-table entry: its byte is not in ILLEGAL_SET (`30_encoding.md` R79). -/
def Instr.hasTableEntry : Instr → Bool
  | .illegalD3 | .illegalDB | .illegalDD | .illegalE3 | .illegalE4 | .illegalEB
  | .illegalEC | .illegalED | .illegalF4 | .illegalFC | .illegalFD => false
  | _ => true

/-- A well-formed instruction: complete, and one the dispatch tables have. Operand fields need no check: their types
are exactly the widths the encoding gives them. -/
def Instr.wellFormed (i : Instr) : Bool := i.selfContained && i.hasTableEntry

end Sys2Proof
end

