-- ==== Sys2Proof/Decode.lean ====
section
/-! DEFINITION. The decoder, total on any bytes, written from the field rules of `30_encoding.md` R71 to R82; after it the encoder, written row by row from `opcode_table.json`; and the bit-field and byte-order helpers both use. -/

namespace Sys2Proof

/-! ## Bit fields and byte order -/

/-- `hi : lo`, the 16-bit value with `hi` in the high bits (`00_scope.md` R9). -/
def joinBytes (hi lo : Byte) : Word := hi ++ lo

/-- `v[15:8]`. -/
def highByte (v : Word) : Byte := v.extractLsb' 8 8

/-- `v[7:0]`. -/
def lowByte (v : Word) : Byte := v.extractLsb' 0 8

/-- `sext_16`: the byte read as two's complement, widened to 16 bits (`00_scope.md` R9). -/
def sext16 (v : Byte) : Word := v.signExtend 16

/-- `zext_16`: the byte widened with zeros (`00_scope.md` R9). -/
def zext16 (v : Byte) : Word := v.setWidth 16

/-- `x = op[7:6]` (R71). -/
def fieldX (op : Byte) : Fin 4 := (op.extractLsb' 6 2).toFin

/-- `y = op[5:3]` (R71). -/
def fieldY (op : Byte) : Fin 8 := (op.extractLsb' 3 3).toFin

/-- `z = op[2:0]` (R71). -/
def fieldZ (op : Byte) : Fin 8 := (op.extractLsb' 0 3).toFin

/-- `p = op[5:4]` (R71). -/
def fieldP (op : Byte) : Fin 4 := (op.extractLsb' 4 2).toFin

/-- `q = op[3]` (R71). -/
def fieldQ (op : Byte) : Fin 2 := (op.extractLsb' 3 1).toFin

/-- `c = op[4:3]` (R71). -/
def fieldC (op : Byte) : Fin 4 := (op.extractLsb' 3 2).toFin

/-! ## Operand selectors -/

/-- `r8[k]`: B, C, D, E, H, L, memory-at-HL, A (`10_state.md` R27). -/
def operandOfField : Fin 8 → Operand8
  | 0 => .reg .b | 1 => .reg .c | 2 => .reg .d | 3 => .reg .e
  | 4 => .reg .h | 5 => .reg .l | 6 => .memHL | 7 => .reg .a

/-- `rp[p]`: BC, DE, HL, SP (R28). -/
def pairOfField : Fin 4 → Pair
  | 0 => .bc | 1 => .de | 2 => .hl | 3 => .sp

/-- `rp2[p]`: BC, DE, HL, AF (R29). -/
def stackPairOfField : Fin 4 → StackPair
  | 0 => .bc | 1 => .de | 2 => .hl | 3 => .af

/-- The condition field: NZ, Z, NC, C (R30). -/
def condOfField : Fin 4 → Cond
  | 0 => .nz | 1 => .z | 2 => .nc | 3 => .c

/-- The operation field `o` of the ALU blocks (`30_encoding.md` R71). -/
def aluOfField : Fin 8 → AluOp
  | 0 => .add | 1 => .adc | 2 => .sub | 3 => .sbc | 4 => .and | 5 => .xor | 6 => .or | 7 => .cp

/-- The row field of the CB rotate and shift block (R80). -/
def rotOfField : Fin 8 → RotOp
  | 0 => .rlc | 1 => .rrc | 2 => .rl | 3 => .rr | 4 => .sla | 5 => .sra | 6 => .swap | 7 => .srl

/-! ## The families: the row that an operation and its selected operands name -/

/-- `LD r8[d], r8[s]`; the place of `LD (HL),(HL)` is HALT's (R75). -/
def loadInstr (d s : Operand8) : Instr :=
  match d, s with
  | .reg .b, .reg .b => .ldBB | .reg .b, .reg .c => .ldBC | .reg .b, .reg .d => .ldBD | .reg .b, .reg .e => .ldBE
  | .reg .b, .reg .h => .ldBH | .reg .b, .reg .l => .ldBL | .reg .b, .memHL => .ldBMemHL | .reg .b, .reg .a => .ldBA
  | .reg .c, .reg .b => .ldCB | .reg .c, .reg .c => .ldCC | .reg .c, .reg .d => .ldCD | .reg .c, .reg .e => .ldCE
  | .reg .c, .reg .h => .ldCH | .reg .c, .reg .l => .ldCL | .reg .c, .memHL => .ldCMemHL | .reg .c, .reg .a => .ldCA
  | .reg .d, .reg .b => .ldDB | .reg .d, .reg .c => .ldDC | .reg .d, .reg .d => .ldDD | .reg .d, .reg .e => .ldDE
  | .reg .d, .reg .h => .ldDH | .reg .d, .reg .l => .ldDL | .reg .d, .memHL => .ldDMemHL | .reg .d, .reg .a => .ldDA
  | .reg .e, .reg .b => .ldEB | .reg .e, .reg .c => .ldEC | .reg .e, .reg .d => .ldED | .reg .e, .reg .e => .ldEE
  | .reg .e, .reg .h => .ldEH | .reg .e, .reg .l => .ldEL | .reg .e, .memHL => .ldEMemHL | .reg .e, .reg .a => .ldEA
  | .reg .h, .reg .b => .ldHB | .reg .h, .reg .c => .ldHC | .reg .h, .reg .d => .ldHD | .reg .h, .reg .e => .ldHE
  | .reg .h, .reg .h => .ldHH | .reg .h, .reg .l => .ldHL | .reg .h, .memHL => .ldHMemHL | .reg .h, .reg .a => .ldHA
  | .reg .l, .reg .b => .ldLB | .reg .l, .reg .c => .ldLC | .reg .l, .reg .d => .ldLD | .reg .l, .reg .e => .ldLE
  | .reg .l, .reg .h => .ldLH | .reg .l, .reg .l => .ldLL | .reg .l, .memHL => .ldLMemHL | .reg .l, .reg .a => .ldLA
  | .memHL, .reg .b => .ldMemHLB | .memHL, .reg .c => .ldMemHLC | .memHL, .reg .d => .ldMemHLD | .memHL, .reg .e => .ldMemHLE
  | .memHL, .reg .h => .ldMemHLH | .memHL, .reg .l => .ldMemHLL | .memHL, .memHL => .halt | .memHL, .reg .a => .ldMemHLA
  | .reg .a, .reg .b => .ldAB | .reg .a, .reg .c => .ldAC | .reg .a, .reg .d => .ldAD | .reg .a, .reg .e => .ldAE
  | .reg .a, .reg .h => .ldAH | .reg .a, .reg .l => .ldAL | .reg .a, .memHL => .ldAMemHL | .reg .a, .reg .a => .ldAA

/-- `LD r8[d], n8` (R74). -/
def loadImmInstr (d : Operand8) (n : Byte) : Instr :=
  match d with
  | .reg .b => .ldBN8 n
  | .reg .c => .ldCN8 n
  | .reg .d => .ldDN8 n
  | .reg .e => .ldEN8 n
  | .reg .h => .ldHN8 n
  | .reg .l => .ldLN8 n
  | .memHL => .ldMemHLN8 n
  | .reg .a => .ldAN8 n

/-- `ALU[o] A, r8[s]` (R76). -/
def aluInstr (o : AluOp) (s : Operand8) : Instr :=
  match o, s with
  | .add, .reg .b => .addAB | .add, .reg .c => .addAC | .add, .reg .d => .addAD | .add, .reg .e => .addAE
  | .add, .reg .h => .addAH | .add, .reg .l => .addAL | .add, .memHL => .addAMemHL | .add, .reg .a => .addAA
  | .adc, .reg .b => .adcAB | .adc, .reg .c => .adcAC | .adc, .reg .d => .adcAD | .adc, .reg .e => .adcAE
  | .adc, .reg .h => .adcAH | .adc, .reg .l => .adcAL | .adc, .memHL => .adcAMemHL | .adc, .reg .a => .adcAA
  | .sub, .reg .b => .subAB | .sub, .reg .c => .subAC | .sub, .reg .d => .subAD | .sub, .reg .e => .subAE
  | .sub, .reg .h => .subAH | .sub, .reg .l => .subAL | .sub, .memHL => .subAMemHL | .sub, .reg .a => .subAA
  | .sbc, .reg .b => .sbcAB | .sbc, .reg .c => .sbcAC | .sbc, .reg .d => .sbcAD | .sbc, .reg .e => .sbcAE
  | .sbc, .reg .h => .sbcAH | .sbc, .reg .l => .sbcAL | .sbc, .memHL => .sbcAMemHL | .sbc, .reg .a => .sbcAA
  | .and, .reg .b => .andAB | .and, .reg .c => .andAC | .and, .reg .d => .andAD | .and, .reg .e => .andAE
  | .and, .reg .h => .andAH | .and, .reg .l => .andAL | .and, .memHL => .andAMemHL | .and, .reg .a => .andAA
  | .xor, .reg .b => .xorAB | .xor, .reg .c => .xorAC | .xor, .reg .d => .xorAD | .xor, .reg .e => .xorAE
  | .xor, .reg .h => .xorAH | .xor, .reg .l => .xorAL | .xor, .memHL => .xorAMemHL | .xor, .reg .a => .xorAA
  | .or, .reg .b => .orAB | .or, .reg .c => .orAC | .or, .reg .d => .orAD | .or, .reg .e => .orAE
  | .or, .reg .h => .orAH | .or, .reg .l => .orAL | .or, .memHL => .orAMemHL | .or, .reg .a => .orAA
  | .cp, .reg .b => .cpAB | .cp, .reg .c => .cpAC | .cp, .reg .d => .cpAD | .cp, .reg .e => .cpAE
  | .cp, .reg .h => .cpAH | .cp, .reg .l => .cpAL | .cp, .memHL => .cpAMemHL | .cp, .reg .a => .cpAA

/-- `ALU[o] A, n8` (R77). -/
def aluImmInstr (o : AluOp) (n : Byte) : Instr :=
  match o with
  | .add => .addAN8 n
  | .adc => .adcAN8 n
  | .sub => .subAN8 n
  | .sbc => .sbcAN8 n
  | .and => .andAN8 n
  | .xor => .xorAN8 n
  | .or => .orAN8 n
  | .cp => .cpAN8 n

/-- `INC r8[d]` (R74). -/
def incInstr (d : Operand8) : Instr :=
  match d with
  | .reg .b => .incB | .reg .c => .incC | .reg .d => .incD | .reg .e => .incE | .reg .h => .incH | .reg .l => .incL | .memHL => .incMemHL | .reg .a => .incA

/-- `DEC r8[d]` (R74). -/
def decInstr (d : Operand8) : Instr :=
  match d with
  | .reg .b => .decB | .reg .c => .decC | .reg .d => .decD | .reg .e => .decE | .reg .h => .decH | .reg .l => .decL | .memHL => .decMemHL | .reg .a => .decA

/-- The rotate, shift or SWAP row `o` on `r8[d]` (R80). -/
def rotInstr (o : RotOp) (d : Operand8) : Instr :=
  match o, d with
  | .rlc, .reg .b => .rlcB | .rlc, .reg .c => .rlcC | .rlc, .reg .d => .rlcD | .rlc, .reg .e => .rlcE
  | .rlc, .reg .h => .rlcH | .rlc, .reg .l => .rlcL | .rlc, .memHL => .rlcMemHL | .rlc, .reg .a => .rlcA
  | .rrc, .reg .b => .rrcB | .rrc, .reg .c => .rrcC | .rrc, .reg .d => .rrcD | .rrc, .reg .e => .rrcE
  | .rrc, .reg .h => .rrcH | .rrc, .reg .l => .rrcL | .rrc, .memHL => .rrcMemHL | .rrc, .reg .a => .rrcA
  | .rl, .reg .b => .rlB | .rl, .reg .c => .rlC | .rl, .reg .d => .rlD | .rl, .reg .e => .rlE
  | .rl, .reg .h => .rlH | .rl, .reg .l => .rlL | .rl, .memHL => .rlMemHL | .rl, .reg .a => .rlA
  | .rr, .reg .b => .rrB | .rr, .reg .c => .rrC | .rr, .reg .d => .rrD | .rr, .reg .e => .rrE
  | .rr, .reg .h => .rrH | .rr, .reg .l => .rrL | .rr, .memHL => .rrMemHL | .rr, .reg .a => .rrA
  | .sla, .reg .b => .slaB | .sla, .reg .c => .slaC | .sla, .reg .d => .slaD | .sla, .reg .e => .slaE
  | .sla, .reg .h => .slaH | .sla, .reg .l => .slaL | .sla, .memHL => .slaMemHL | .sla, .reg .a => .slaA
  | .sra, .reg .b => .sraB | .sra, .reg .c => .sraC | .sra, .reg .d => .sraD | .sra, .reg .e => .sraE
  | .sra, .reg .h => .sraH | .sra, .reg .l => .sraL | .sra, .memHL => .sraMemHL | .sra, .reg .a => .sraA
  | .swap, .reg .b => .swapB | .swap, .reg .c => .swapC | .swap, .reg .d => .swapD | .swap, .reg .e => .swapE
  | .swap, .reg .h => .swapH | .swap, .reg .l => .swapL | .swap, .memHL => .swapMemHL | .swap, .reg .a => .swapA
  | .srl, .reg .b => .srlB | .srl, .reg .c => .srlC | .srl, .reg .d => .srlD | .srl, .reg .e => .srlE
  | .srl, .reg .h => .srlH | .srl, .reg .l => .srlL | .srl, .memHL => .srlMemHL | .srl, .reg .a => .srlA

/-- `BIT b, r8[d]` (R80). -/
def bitInstr (b : Fin 8) (d : Operand8) : Instr :=
  match b, d with
  | 0, .reg .b => .bit0B | 0, .reg .c => .bit0C | 0, .reg .d => .bit0D | 0, .reg .e => .bit0E
  | 0, .reg .h => .bit0H | 0, .reg .l => .bit0L | 0, .memHL => .bit0MemHL | 0, .reg .a => .bit0A
  | 1, .reg .b => .bit1B | 1, .reg .c => .bit1C | 1, .reg .d => .bit1D | 1, .reg .e => .bit1E
  | 1, .reg .h => .bit1H | 1, .reg .l => .bit1L | 1, .memHL => .bit1MemHL | 1, .reg .a => .bit1A
  | 2, .reg .b => .bit2B | 2, .reg .c => .bit2C | 2, .reg .d => .bit2D | 2, .reg .e => .bit2E
  | 2, .reg .h => .bit2H | 2, .reg .l => .bit2L | 2, .memHL => .bit2MemHL | 2, .reg .a => .bit2A
  | 3, .reg .b => .bit3B | 3, .reg .c => .bit3C | 3, .reg .d => .bit3D | 3, .reg .e => .bit3E
  | 3, .reg .h => .bit3H | 3, .reg .l => .bit3L | 3, .memHL => .bit3MemHL | 3, .reg .a => .bit3A
  | 4, .reg .b => .bit4B | 4, .reg .c => .bit4C | 4, .reg .d => .bit4D | 4, .reg .e => .bit4E
  | 4, .reg .h => .bit4H | 4, .reg .l => .bit4L | 4, .memHL => .bit4MemHL | 4, .reg .a => .bit4A
  | 5, .reg .b => .bit5B | 5, .reg .c => .bit5C | 5, .reg .d => .bit5D | 5, .reg .e => .bit5E
  | 5, .reg .h => .bit5H | 5, .reg .l => .bit5L | 5, .memHL => .bit5MemHL | 5, .reg .a => .bit5A
  | 6, .reg .b => .bit6B | 6, .reg .c => .bit6C | 6, .reg .d => .bit6D | 6, .reg .e => .bit6E
  | 6, .reg .h => .bit6H | 6, .reg .l => .bit6L | 6, .memHL => .bit6MemHL | 6, .reg .a => .bit6A
  | 7, .reg .b => .bit7B | 7, .reg .c => .bit7C | 7, .reg .d => .bit7D | 7, .reg .e => .bit7E
  | 7, .reg .h => .bit7H | 7, .reg .l => .bit7L | 7, .memHL => .bit7MemHL | 7, .reg .a => .bit7A

/-- `RES b, r8[d]` (R80). -/
def resInstr (b : Fin 8) (d : Operand8) : Instr :=
  match b, d with
  | 0, .reg .b => .res0B | 0, .reg .c => .res0C | 0, .reg .d => .res0D | 0, .reg .e => .res0E
  | 0, .reg .h => .res0H | 0, .reg .l => .res0L | 0, .memHL => .res0MemHL | 0, .reg .a => .res0A
  | 1, .reg .b => .res1B | 1, .reg .c => .res1C | 1, .reg .d => .res1D | 1, .reg .e => .res1E
  | 1, .reg .h => .res1H | 1, .reg .l => .res1L | 1, .memHL => .res1MemHL | 1, .reg .a => .res1A
  | 2, .reg .b => .res2B | 2, .reg .c => .res2C | 2, .reg .d => .res2D | 2, .reg .e => .res2E
  | 2, .reg .h => .res2H | 2, .reg .l => .res2L | 2, .memHL => .res2MemHL | 2, .reg .a => .res2A
  | 3, .reg .b => .res3B | 3, .reg .c => .res3C | 3, .reg .d => .res3D | 3, .reg .e => .res3E
  | 3, .reg .h => .res3H | 3, .reg .l => .res3L | 3, .memHL => .res3MemHL | 3, .reg .a => .res3A
  | 4, .reg .b => .res4B | 4, .reg .c => .res4C | 4, .reg .d => .res4D | 4, .reg .e => .res4E
  | 4, .reg .h => .res4H | 4, .reg .l => .res4L | 4, .memHL => .res4MemHL | 4, .reg .a => .res4A
  | 5, .reg .b => .res5B | 5, .reg .c => .res5C | 5, .reg .d => .res5D | 5, .reg .e => .res5E
  | 5, .reg .h => .res5H | 5, .reg .l => .res5L | 5, .memHL => .res5MemHL | 5, .reg .a => .res5A
  | 6, .reg .b => .res6B | 6, .reg .c => .res6C | 6, .reg .d => .res6D | 6, .reg .e => .res6E
  | 6, .reg .h => .res6H | 6, .reg .l => .res6L | 6, .memHL => .res6MemHL | 6, .reg .a => .res6A
  | 7, .reg .b => .res7B | 7, .reg .c => .res7C | 7, .reg .d => .res7D | 7, .reg .e => .res7E
  | 7, .reg .h => .res7H | 7, .reg .l => .res7L | 7, .memHL => .res7MemHL | 7, .reg .a => .res7A

/-- `SET b, r8[d]` (R80). -/
def setInstr (b : Fin 8) (d : Operand8) : Instr :=
  match b, d with
  | 0, .reg .b => .set0B | 0, .reg .c => .set0C | 0, .reg .d => .set0D | 0, .reg .e => .set0E
  | 0, .reg .h => .set0H | 0, .reg .l => .set0L | 0, .memHL => .set0MemHL | 0, .reg .a => .set0A
  | 1, .reg .b => .set1B | 1, .reg .c => .set1C | 1, .reg .d => .set1D | 1, .reg .e => .set1E
  | 1, .reg .h => .set1H | 1, .reg .l => .set1L | 1, .memHL => .set1MemHL | 1, .reg .a => .set1A
  | 2, .reg .b => .set2B | 2, .reg .c => .set2C | 2, .reg .d => .set2D | 2, .reg .e => .set2E
  | 2, .reg .h => .set2H | 2, .reg .l => .set2L | 2, .memHL => .set2MemHL | 2, .reg .a => .set2A
  | 3, .reg .b => .set3B | 3, .reg .c => .set3C | 3, .reg .d => .set3D | 3, .reg .e => .set3E
  | 3, .reg .h => .set3H | 3, .reg .l => .set3L | 3, .memHL => .set3MemHL | 3, .reg .a => .set3A
  | 4, .reg .b => .set4B | 4, .reg .c => .set4C | 4, .reg .d => .set4D | 4, .reg .e => .set4E
  | 4, .reg .h => .set4H | 4, .reg .l => .set4L | 4, .memHL => .set4MemHL | 4, .reg .a => .set4A
  | 5, .reg .b => .set5B | 5, .reg .c => .set5C | 5, .reg .d => .set5D | 5, .reg .e => .set5E
  | 5, .reg .h => .set5H | 5, .reg .l => .set5L | 5, .memHL => .set5MemHL | 5, .reg .a => .set5A
  | 6, .reg .b => .set6B | 6, .reg .c => .set6C | 6, .reg .d => .set6D | 6, .reg .e => .set6E
  | 6, .reg .h => .set6H | 6, .reg .l => .set6L | 6, .memHL => .set6MemHL | 6, .reg .a => .set6A
  | 7, .reg .b => .set7B | 7, .reg .c => .set7C | 7, .reg .d => .set7D | 7, .reg .e => .set7E
  | 7, .reg .h => .set7H | 7, .reg .l => .set7L | 7, .memHL => .set7MemHL | 7, .reg .a => .set7A

/-- `LD rp[p], n16` (R74). -/
def loadPairInstr (p : Pair) (n : Word) : Instr :=
  match p with
  | .bc => .ldBCN16 n | .de => .ldDEN16 n | .hl => .ldHLN16 n | .sp => .ldSPN16 n

/-- `ADD HL, rp[p]` (R74). -/
def addHLInstr (p : Pair) : Instr :=
  match p with
  | .bc => .addHLBC | .de => .addHLDE | .hl => .addHLHL | .sp => .addHLSP

/-- `INC rp[p]` (R74). -/
def incPairInstr (p : Pair) : Instr :=
  match p with
  | .bc => .incBC | .de => .incDE | .hl => .incHL | .sp => .incSP

/-- `DEC rp[p]` (R74). -/
def decPairInstr (p : Pair) : Instr :=
  match p with
  | .bc => .decBC | .de => .decDE | .hl => .decHL | .sp => .decSP

/-- `PUSH rp2[q]` (R77). -/
def pushInstr (q : StackPair) : Instr :=
  match q with
  | .bc => .pushBC | .de => .pushDE | .hl => .pushHL | .af => .pushAF

/-- `POP rp2[q]` (R77). -/
def popInstr (q : StackPair) : Instr :=
  match q with
  | .bc => .popBC | .de => .popDE | .hl => .popHL | .af => .popAF

/-- `JP cc` (R77). -/
def jumpCondInstr (cc : Cond) (n : Word) : Instr :=
  match cc with
  | .nz => .jpNZN16 n | .z => .jpZN16 n | .nc => .jpNCN16 n | .c => .jpCN16 n

/-- `JR cc` (R74). -/
def jumpRelCondInstr (cc : Cond) (e : Byte) : Instr :=
  match cc with
  | .nz => .jrNZE8 e | .z => .jrZE8 e | .nc => .jrNCE8 e | .c => .jrCE8 e

/-- `CALL cc` (R77). -/
def callCondInstr (cc : Cond) (n : Word) : Instr :=
  match cc with
  | .nz => .callNZN16 n | .z => .callZN16 n | .nc => .callNCN16 n | .c => .callCN16 n

/-- `RET cc` (R77). -/
def retCondInstr (cc : Cond) : Instr :=
  match cc with
  | .nz => .retNZ | .z => .retZ | .nc => .retNC | .c => .retC

/-- `RST y*8` (R77). -/
def rstInstr (y : Fin 8) : Instr :=
  match y with
  | 0 => .rst00 | 1 => .rst08 | 2 => .rst10 | 3 => .rst18 | 4 => .rst20 | 5 => .rst28 | 6 => .rst30 | 7 => .rst38

/-! ## The decoder -/

/-- The CB table: four blocks of 64, the operand in `z`, the row or bit position in `y` (R80, R81). -/
def decodeCb (cb : Byte) : Instr :=
  match fieldX cb with
  | 0 => rotInstr (rotOfField (fieldY cb)) (operandOfField (fieldZ cb))
  | 1 => bitInstr (fieldY cb) (operandOfField (fieldZ cb))
  | 2 => resInstr (fieldY cb) (operandOfField (fieldZ cb))
  | 3 => setInstr (fieldY cb) (operandOfField (fieldZ cb))

/-- Block x = 0 (R74). `b1` is the byte after the opcode, `n` the little-endian 16-bit value after it. -/
def decodeBlock0 (op b1 : Byte) (n : Word) : Instr :=
  match fieldZ op with
  | 0 =>
    match fieldY op with
    | 0 => .nop
    | 1 => .ldMemN16SP n
    | 2 => .stop b1
    | 3 => .jrE8 b1
    | 4 | 5 | 6 | 7 => jumpRelCondInstr (condOfField (fieldC op)) b1
  | 1 =>
    match fieldQ op with
    | 0 => loadPairInstr (pairOfField (fieldP op)) n
    | 1 => addHLInstr (pairOfField (fieldP op))
  | 2 =>
    match fieldY op with
    | 0 => .ldMemBCA | 1 => .ldAMemBC
    | 2 => .ldMemDEA | 3 => .ldAMemDE
    | 4 => .ldMemHLIncA | 5 => .ldAMemHLInc
    | 6 => .ldMemHLDecA | 7 => .ldAMemHLDec
  | 3 =>
    match fieldQ op with
    | 0 => incPairInstr (pairOfField (fieldP op))
    | 1 => decPairInstr (pairOfField (fieldP op))
  | 4 => incInstr (operandOfField (fieldY op))
  | 5 => decInstr (operandOfField (fieldY op))
  | 6 => loadImmInstr (operandOfField (fieldY op)) b1
  | 7 =>
    match fieldY op with
    | 0 => .rlca | 1 => .rrca | 2 => .rla | 3 => .rra
    | 4 => .daa | 5 => .cpl | 6 => .scf | 7 => .ccf

/-- Block x = 3 (R77), the prefix 0xCB with the byte after it (R82, R106) and the illegal bytes (R79) among it. -/
def decodeBlock3 (op b1 : Byte) (n : Word) : Instr :=
  match fieldZ op with
  | 0 =>
    match fieldY op with
    | 0 | 1 | 2 | 3 => retCondInstr (condOfField (fieldC op))
    | 4 => .ldhMemN8A b1
    | 5 => .addSPE8 b1
    | 6 => .ldhAMemN8 b1
    | 7 => .ldHLSPE8 b1
  | 1 =>
    match fieldQ op with
    | 0 => popInstr (stackPairOfField (fieldP op))
    | 1 =>
      match fieldP op with
      | 0 => .ret | 1 => .reti | 2 => .jpHL | 3 => .ldSPHL
  | 2 =>
    match fieldY op with
    | 0 | 1 | 2 | 3 => jumpCondInstr (condOfField (fieldC op)) n
    | 4 => .ldMemCA
    | 5 => .ldMemN16A n
    | 6 => .ldAMemC
    | 7 => .ldAMemN16 n
  | 3 =>
    match fieldY op with
    | 0 => .jpN16 n | 1 => decodeCb b1 | 2 => .illegalD3 | 3 => .illegalDB
    | 4 => .illegalE3 | 5 => .illegalEB | 6 => .di | 7 => .ei
  | 4 =>
    match fieldY op with
    | 0 | 1 | 2 | 3 => callCondInstr (condOfField (fieldC op)) n
    | 4 => .illegalE4 | 5 => .illegalEC | 6 => .illegalF4 | 7 => .illegalFC
  | 5 =>
    match fieldQ op with
    | 0 => pushInstr (stackPairOfField (fieldP op))
    | 1 =>
      match fieldP op with
      | 0 => .callN16 n | 1 => .illegalDD | 2 => .illegalED | 3 => .illegalFD
  | 6 => aluImmInstr (aluOfField (fieldY op)) b1
  | 7 => rstInstr (fieldY op)

/-- The instruction whose opcode byte is `op` and whose next two bytes in the instruction stream are `b1` and `b2`.
Total: "every byte is either a table entry ... or an illegal byte" (R82). -/
def decodeBytes (op b1 b2 : Byte) : Instr :=
  match fieldX op with
  | 0 => decodeBlock0 op b1 (joinBytes b2 b1)
  | 1 => loadInstr (operandOfField (fieldY op)) (operandOfField (fieldZ op))
  | 2 => aluInstr (aluOfField (fieldY op)) (operandOfField (fieldZ op))
  | 3 => decodeBlock3 op b1 (joinBytes b2 b1)

/-- The length of an instruction, "fixed by the opcode byte alone (and, for 0x10, by STOP_LENGTH)" (R70). -/
def opcodeLength (stopLength : StopLength) (op : Byte) : Nat :=
  match fieldX op, fieldZ op with
  | 0, 0 =>
    match fieldY op with
    | 0 => 1
    | 1 => 3
    | 2 => (match stopLength with | .one => 1 | .two => 2)
    | 3 | 4 | 5 | 6 | 7 => 2
  | 0, 1 => (match fieldQ op with | 0 => 3 | 1 => 1)
  | 0, 6 => 2
  | 3, 0 => (match fieldY op with | 0 | 1 | 2 | 3 => 1 | 4 | 5 | 6 | 7 => 2)
  | 3, 2 => (match fieldY op with | 0 | 1 | 2 | 3 | 5 | 7 => 3 | 4 | 6 => 1)
  | 3, 3 => (match fieldY op with | 0 => 3 | 1 => 2 | 2 | 3 | 4 | 5 | 6 | 7 => 1)
  | 3, 4 => (match fieldY op with | 0 | 1 | 2 | 3 => 3 | 4 | 5 | 6 | 7 => 1)
  | 3, 5 => if op = 0xCD then 3 else 1
  | 3, 6 => 2
  | _, _ => 1

/-- Why a list of bytes is no instruction: it ends before the instruction does. -/
inductive DecodeError where
  | empty
  | truncated (op : Byte)
deriving DecidableEq, Repr

/-- The decoder on a list of bytes: the instruction at its head, or the named reason there is none. The lone prefix
byte 0xCB is the handler `prefixCb`, which fetches its second byte itself (R106, log entry 11). -/
def decode : List Byte → Except DecodeError Instr
  | [] => .error .empty
  | [op] =>
    if op = 0xCB then .ok .prefixCb
    else if opcodeLength .two op = 1 then .ok (decodeBytes op 0 0) else .error (.truncated op)
  | [op, b1] =>
    if opcodeLength .two op ≤ 2 then .ok (decodeBytes op b1 0) else .error (.truncated op)
  | op :: b1 :: b2 :: _ => .ok (decodeBytes op b1 b2)

/-- The bytes, first at the lowest address, of a table row's bits as the table numbers them (log entry 10): a row of
one byte gives that byte and two operand bytes of zeros; a CB row is written by the table as 0xCBxx, the prefix in
bits 15:8; any other wider word has its first byte in bits 7:0. The row of the bare prefix gives the prefix alone. -/
def tableBytes (nbits w : Nat) : List Byte :=
  let byteAt (k : Nat) : Byte := BitVec.ofNat 8 (w / 2 ^ (8 * k))
  if nbits ≤ 8 then
    if byteAt 0 = 0xCB then [0xCB] else [byteAt 0, 0, 0]
  else if nbits ≤ 16 ∧ byteAt 1 = 0xCB then [byteAt 1, byteAt 0, 0]
  else [byteAt 0, byteAt 1, byteAt 2]

/-- The instruction the decoder reads from a table row's bits; bits above `nbits` are taken as given (zero). -/
def decodeTableWord (nbits w : Nat) : Option Instr :=
  match decode (tableBytes nbits w) with
  | .ok i => some i
  | .error _ => none

/-! ## The encoder -/

/-- The bytes of an instruction in fetch order: the row's opcode byte or bytes in `opcode_table.json`, then its operand,
a 16-bit one low byte first (R70, R72). -/
def encode : Instr → List Byte
  | .nop => [0x00]
  | .ldBCN16 n => [0x01, lowByte n, highByte n]
  | .ldMemBCA => [0x02]
  | .incBC => [0x03]
  | .incB => [0x04]
  | .decB => [0x05]
  | .ldBN8 n => [0x06, n]
  | .rlca => [0x07]
  | .ldMemN16SP n => [0x08, lowByte n, highByte n]
  | .addHLBC => [0x09]
  | .ldAMemBC => [0x0A]
  | .decBC => [0x0B]
  | .incC => [0x0C]
  | .decC => [0x0D]
  | .ldCN8 n => [0x0E, n]
  | .rrca => [0x0F]
  | .stop pad => [0x10, pad]
  | .ldDEN16 n => [0x11, lowByte n, highByte n]
  | .ldMemDEA => [0x12]
  | .incDE => [0x13]
  | .incD => [0x14]
  | .decD => [0x15]
  | .ldDN8 n => [0x16, n]
  | .rla => [0x17]
  | .jrE8 e => [0x18, e]
  | .addHLDE => [0x19]
  | .ldAMemDE => [0x1A]
  | .decDE => [0x1B]
  | .incE => [0x1C]
  | .decE => [0x1D]
  | .ldEN8 n => [0x1E, n]
  | .rra => [0x1F]
  | .jrNZE8 e => [0x20, e]
  | .ldHLN16 n => [0x21, lowByte n, highByte n]
  | .ldMemHLIncA => [0x22]
  | .incHL => [0x23]
  | .incH => [0x24]
  | .decH => [0x25]
  | .ldHN8 n => [0x26, n]
  | .daa => [0x27]
  | .jrZE8 e => [0x28, e]
  | .addHLHL => [0x29]
  | .ldAMemHLInc => [0x2A]
  | .decHL => [0x2B]
  | .incL => [0x2C]
  | .decL => [0x2D]
  | .ldLN8 n => [0x2E, n]
  | .cpl => [0x2F]
  | .jrNCE8 e => [0x30, e]
  | .ldSPN16 n => [0x31, lowByte n, highByte n]
  | .ldMemHLDecA => [0x32]
  | .incSP => [0x33]
  | .incMemHL => [0x34]
  | .decMemHL => [0x35]
  | .ldMemHLN8 n => [0x36, n]
  | .scf => [0x37]
  | .jrCE8 e => [0x38, e]
  | .addHLSP => [0x39]
  | .ldAMemHLDec => [0x3A]
  | .decSP => [0x3B]
  | .incA => [0x3C]
  | .decA => [0x3D]
  | .ldAN8 n => [0x3E, n]
  | .ccf => [0x3F]
  | .ldBB => [0x40]
  | .ldBC => [0x41]
  | .ldBD => [0x42]
  | .ldBE => [0x43]
  | .ldBH => [0x44]
  | .ldBL => [0x45]
  | .ldBMemHL => [0x46]
  | .ldBA => [0x47]
  | .ldCB => [0x48]
  | .ldCC => [0x49]
  | .ldCD => [0x4A]
  | .ldCE => [0x4B]
  | .ldCH => [0x4C]
  | .ldCL => [0x4D]
  | .ldCMemHL => [0x4E]
  | .ldCA => [0x4F]
  | .ldDB => [0x50]
  | .ldDC => [0x51]
  | .ldDD => [0x52]
  | .ldDE => [0x53]
  | .ldDH => [0x54]
  | .ldDL => [0x55]
  | .ldDMemHL => [0x56]
  | .ldDA => [0x57]
  | .ldEB => [0x58]
  | .ldEC => [0x59]
  | .ldED => [0x5A]
  | .ldEE => [0x5B]
  | .ldEH => [0x5C]
  | .ldEL => [0x5D]
  | .ldEMemHL => [0x5E]
  | .ldEA => [0x5F]
  | .ldHB => [0x60]
  | .ldHC => [0x61]
  | .ldHD => [0x62]
  | .ldHE => [0x63]
  | .ldHH => [0x64]
  | .ldHL => [0x65]
  | .ldHMemHL => [0x66]
  | .ldHA => [0x67]
  | .ldLB => [0x68]
  | .ldLC => [0x69]
  | .ldLD => [0x6A]
  | .ldLE => [0x6B]
  | .ldLH => [0x6C]
  | .ldLL => [0x6D]
  | .ldLMemHL => [0x6E]
  | .ldLA => [0x6F]
  | .ldMemHLB => [0x70]
  | .ldMemHLC => [0x71]
  | .ldMemHLD => [0x72]
  | .ldMemHLE => [0x73]
  | .ldMemHLH => [0x74]
  | .ldMemHLL => [0x75]
  | .halt => [0x76]
  | .ldMemHLA => [0x77]
  | .ldAB => [0x78]
  | .ldAC => [0x79]
  | .ldAD => [0x7A]
  | .ldAE => [0x7B]
  | .ldAH => [0x7C]
  | .ldAL => [0x7D]
  | .ldAMemHL => [0x7E]
  | .ldAA => [0x7F]
  | .addAB => [0x80]
  | .addAC => [0x81]
  | .addAD => [0x82]
  | .addAE => [0x83]
  | .addAH => [0x84]
  | .addAL => [0x85]
  | .addAMemHL => [0x86]
  | .addAA => [0x87]
  | .adcAB => [0x88]
  | .adcAC => [0x89]
  | .adcAD => [0x8A]
  | .adcAE => [0x8B]
  | .adcAH => [0x8C]
  | .adcAL => [0x8D]
  | .adcAMemHL => [0x8E]
  | .adcAA => [0x8F]
  | .subAB => [0x90]
  | .subAC => [0x91]
  | .subAD => [0x92]
  | .subAE => [0x93]
  | .subAH => [0x94]
  | .subAL => [0x95]
  | .subAMemHL => [0x96]
  | .subAA => [0x97]
  | .sbcAB => [0x98]
  | .sbcAC => [0x99]
  | .sbcAD => [0x9A]
  | .sbcAE => [0x9B]
  | .sbcAH => [0x9C]
  | .sbcAL => [0x9D]
  | .sbcAMemHL => [0x9E]
  | .sbcAA => [0x9F]
  | .andAB => [0xA0]
  | .andAC => [0xA1]
  | .andAD => [0xA2]
  | .andAE => [0xA3]
  | .andAH => [0xA4]
  | .andAL => [0xA5]
  | .andAMemHL => [0xA6]
  | .andAA => [0xA7]
  | .xorAB => [0xA8]
  | .xorAC => [0xA9]
  | .xorAD => [0xAA]
  | .xorAE => [0xAB]
  | .xorAH => [0xAC]
  | .xorAL => [0xAD]
  | .xorAMemHL => [0xAE]
  | .xorAA => [0xAF]
  | .orAB => [0xB0]
  | .orAC => [0xB1]
  | .orAD => [0xB2]
  | .orAE => [0xB3]
  | .orAH => [0xB4]
  | .orAL => [0xB5]
  | .orAMemHL => [0xB6]
  | .orAA => [0xB7]
  | .cpAB => [0xB8]
  | .cpAC => [0xB9]
  | .cpAD => [0xBA]
  | .cpAE => [0xBB]
  | .cpAH => [0xBC]
  | .cpAL => [0xBD]
  | .cpAMemHL => [0xBE]
  | .cpAA => [0xBF]
  | .retNZ => [0xC0]
  | .popBC => [0xC1]
  | .jpNZN16 n => [0xC2, lowByte n, highByte n]
  | .jpN16 n => [0xC3, lowByte n, highByte n]
  | .callNZN16 n => [0xC4, lowByte n, highByte n]
  | .pushBC => [0xC5]
  | .addAN8 n => [0xC6, n]
  | .rst00 => [0xC7]
  | .retZ => [0xC8]
  | .ret => [0xC9]
  | .jpZN16 n => [0xCA, lowByte n, highByte n]
  | .prefixCb => [0xCB]
  | .callZN16 n => [0xCC, lowByte n, highByte n]
  | .callN16 n => [0xCD, lowByte n, highByte n]
  | .adcAN8 n => [0xCE, n]
  | .rst08 => [0xCF]
  | .retNC => [0xD0]
  | .popDE => [0xD1]
  | .jpNCN16 n => [0xD2, lowByte n, highByte n]
  | .illegalD3 => [0xD3]
  | .callNCN16 n => [0xD4, lowByte n, highByte n]
  | .pushDE => [0xD5]
  | .subAN8 n => [0xD6, n]
  | .rst10 => [0xD7]
  | .retC => [0xD8]
  | .reti => [0xD9]
  | .jpCN16 n => [0xDA, lowByte n, highByte n]
  | .illegalDB => [0xDB]
  | .callCN16 n => [0xDC, lowByte n, highByte n]
  | .illegalDD => [0xDD]
  | .sbcAN8 n => [0xDE, n]
  | .rst18 => [0xDF]
  | .ldhMemN8A n => [0xE0, n]
  | .popHL => [0xE1]
  | .ldMemCA => [0xE2]
  | .illegalE3 => [0xE3]
  | .illegalE4 => [0xE4]
  | .pushHL => [0xE5]
  | .andAN8 n => [0xE6, n]
  | .rst20 => [0xE7]
  | .addSPE8 e => [0xE8, e]
  | .jpHL => [0xE9]
  | .ldMemN16A n => [0xEA, lowByte n, highByte n]
  | .illegalEB => [0xEB]
  | .illegalEC => [0xEC]
  | .illegalED => [0xED]
  | .xorAN8 n => [0xEE, n]
  | .rst28 => [0xEF]
  | .ldhAMemN8 n => [0xF0, n]
  | .popAF => [0xF1]
  | .ldAMemC => [0xF2]
  | .di => [0xF3]
  | .illegalF4 => [0xF4]
  | .pushAF => [0xF5]
  | .orAN8 n => [0xF6, n]
  | .rst30 => [0xF7]
  | .ldHLSPE8 e => [0xF8, e]
  | .ldSPHL => [0xF9]
  | .ldAMemN16 n => [0xFA, lowByte n, highByte n]
  | .ei => [0xFB]
  | .illegalFC => [0xFC]
  | .illegalFD => [0xFD]
  | .cpAN8 n => [0xFE, n]
  | .rst38 => [0xFF]
  | .rlcB => [0xCB, 0x00]
  | .rlcC => [0xCB, 0x01]
  | .rlcD => [0xCB, 0x02]
  | .rlcE => [0xCB, 0x03]
  | .rlcH => [0xCB, 0x04]
  | .rlcL => [0xCB, 0x05]
  | .rlcMemHL => [0xCB, 0x06]
  | .rlcA => [0xCB, 0x07]
  | .rrcB => [0xCB, 0x08]
  | .rrcC => [0xCB, 0x09]
  | .rrcD => [0xCB, 0x0A]
  | .rrcE => [0xCB, 0x0B]
  | .rrcH => [0xCB, 0x0C]
  | .rrcL => [0xCB, 0x0D]
  | .rrcMemHL => [0xCB, 0x0E]
  | .rrcA => [0xCB, 0x0F]
  | .rlB => [0xCB, 0x10]
  | .rlC => [0xCB, 0x11]
  | .rlD => [0xCB, 0x12]
  | .rlE => [0xCB, 0x13]
  | .rlH => [0xCB, 0x14]
  | .rlL => [0xCB, 0x15]
  | .rlMemHL => [0xCB, 0x16]
  | .rlA => [0xCB, 0x17]
  | .rrB => [0xCB, 0x18]
  | .rrC => [0xCB, 0x19]
  | .rrD => [0xCB, 0x1A]
  | .rrE => [0xCB, 0x1B]
  | .rrH => [0xCB, 0x1C]
  | .rrL => [0xCB, 0x1D]
  | .rrMemHL => [0xCB, 0x1E]
  | .rrA => [0xCB, 0x1F]
  | .slaB => [0xCB, 0x20]
  | .slaC => [0xCB, 0x21]
  | .slaD => [0xCB, 0x22]
  | .slaE => [0xCB, 0x23]
  | .slaH => [0xCB, 0x24]
  | .slaL => [0xCB, 0x25]
  | .slaMemHL => [0xCB, 0x26]
  | .slaA => [0xCB, 0x27]
  | .sraB => [0xCB, 0x28]
  | .sraC => [0xCB, 0x29]
  | .sraD => [0xCB, 0x2A]
  | .sraE => [0xCB, 0x2B]
  | .sraH => [0xCB, 0x2C]
  | .sraL => [0xCB, 0x2D]
  | .sraMemHL => [0xCB, 0x2E]
  | .sraA => [0xCB, 0x2F]
  | .swapB => [0xCB, 0x30]
  | .swapC => [0xCB, 0x31]
  | .swapD => [0xCB, 0x32]
  | .swapE => [0xCB, 0x33]
  | .swapH => [0xCB, 0x34]
  | .swapL => [0xCB, 0x35]
  | .swapMemHL => [0xCB, 0x36]
  | .swapA => [0xCB, 0x37]
  | .srlB => [0xCB, 0x38]
  | .srlC => [0xCB, 0x39]
  | .srlD => [0xCB, 0x3A]
  | .srlE => [0xCB, 0x3B]
  | .srlH => [0xCB, 0x3C]
  | .srlL => [0xCB, 0x3D]
  | .srlMemHL => [0xCB, 0x3E]
  | .srlA => [0xCB, 0x3F]
  | .bit0B => [0xCB, 0x40]
  | .bit0C => [0xCB, 0x41]
  | .bit0D => [0xCB, 0x42]
  | .bit0E => [0xCB, 0x43]
  | .bit0H => [0xCB, 0x44]
  | .bit0L => [0xCB, 0x45]
  | .bit0MemHL => [0xCB, 0x46]
  | .bit0A => [0xCB, 0x47]
  | .bit1B => [0xCB, 0x48]
  | .bit1C => [0xCB, 0x49]
  | .bit1D => [0xCB, 0x4A]
  | .bit1E => [0xCB, 0x4B]
  | .bit1H => [0xCB, 0x4C]
  | .bit1L => [0xCB, 0x4D]
  | .bit1MemHL => [0xCB, 0x4E]
  | .bit1A => [0xCB, 0x4F]
  | .bit2B => [0xCB, 0x50]
  | .bit2C => [0xCB, 0x51]
  | .bit2D => [0xCB, 0x52]
  | .bit2E => [0xCB, 0x53]
  | .bit2H => [0xCB, 0x54]
  | .bit2L => [0xCB, 0x55]
  | .bit2MemHL => [0xCB, 0x56]
  | .bit2A => [0xCB, 0x57]
  | .bit3B => [0xCB, 0x58]
  | .bit3C => [0xCB, 0x59]
  | .bit3D => [0xCB, 0x5A]
  | .bit3E => [0xCB, 0x5B]
  | .bit3H => [0xCB, 0x5C]
  | .bit3L => [0xCB, 0x5D]
  | .bit3MemHL => [0xCB, 0x5E]
  | .bit3A => [0xCB, 0x5F]
  | .bit4B => [0xCB, 0x60]
  | .bit4C => [0xCB, 0x61]
  | .bit4D => [0xCB, 0x62]
  | .bit4E => [0xCB, 0x63]
  | .bit4H => [0xCB, 0x64]
  | .bit4L => [0xCB, 0x65]
  | .bit4MemHL => [0xCB, 0x66]
  | .bit4A => [0xCB, 0x67]
  | .bit5B => [0xCB, 0x68]
  | .bit5C => [0xCB, 0x69]
  | .bit5D => [0xCB, 0x6A]
  | .bit5E => [0xCB, 0x6B]
  | .bit5H => [0xCB, 0x6C]
  | .bit5L => [0xCB, 0x6D]
  | .bit5MemHL => [0xCB, 0x6E]
  | .bit5A => [0xCB, 0x6F]
  | .bit6B => [0xCB, 0x70]
  | .bit6C => [0xCB, 0x71]
  | .bit6D => [0xCB, 0x72]
  | .bit6E => [0xCB, 0x73]
  | .bit6H => [0xCB, 0x74]
  | .bit6L => [0xCB, 0x75]
  | .bit6MemHL => [0xCB, 0x76]
  | .bit6A => [0xCB, 0x77]
  | .bit7B => [0xCB, 0x78]
  | .bit7C => [0xCB, 0x79]
  | .bit7D => [0xCB, 0x7A]
  | .bit7E => [0xCB, 0x7B]
  | .bit7H => [0xCB, 0x7C]
  | .bit7L => [0xCB, 0x7D]
  | .bit7MemHL => [0xCB, 0x7E]
  | .bit7A => [0xCB, 0x7F]
  | .res0B => [0xCB, 0x80]
  | .res0C => [0xCB, 0x81]
  | .res0D => [0xCB, 0x82]
  | .res0E => [0xCB, 0x83]
  | .res0H => [0xCB, 0x84]
  | .res0L => [0xCB, 0x85]
  | .res0MemHL => [0xCB, 0x86]
  | .res0A => [0xCB, 0x87]
  | .res1B => [0xCB, 0x88]
  | .res1C => [0xCB, 0x89]
  | .res1D => [0xCB, 0x8A]
  | .res1E => [0xCB, 0x8B]
  | .res1H => [0xCB, 0x8C]
  | .res1L => [0xCB, 0x8D]
  | .res1MemHL => [0xCB, 0x8E]
  | .res1A => [0xCB, 0x8F]
  | .res2B => [0xCB, 0x90]
  | .res2C => [0xCB, 0x91]
  | .res2D => [0xCB, 0x92]
  | .res2E => [0xCB, 0x93]
  | .res2H => [0xCB, 0x94]
  | .res2L => [0xCB, 0x95]
  | .res2MemHL => [0xCB, 0x96]
  | .res2A => [0xCB, 0x97]
  | .res3B => [0xCB, 0x98]
  | .res3C => [0xCB, 0x99]
  | .res3D => [0xCB, 0x9A]
  | .res3E => [0xCB, 0x9B]
  | .res3H => [0xCB, 0x9C]
  | .res3L => [0xCB, 0x9D]
  | .res3MemHL => [0xCB, 0x9E]
  | .res3A => [0xCB, 0x9F]
  | .res4B => [0xCB, 0xA0]
  | .res4C => [0xCB, 0xA1]
  | .res4D => [0xCB, 0xA2]
  | .res4E => [0xCB, 0xA3]
  | .res4H => [0xCB, 0xA4]
  | .res4L => [0xCB, 0xA5]
  | .res4MemHL => [0xCB, 0xA6]
  | .res4A => [0xCB, 0xA7]
  | .res5B => [0xCB, 0xA8]
  | .res5C => [0xCB, 0xA9]
  | .res5D => [0xCB, 0xAA]
  | .res5E => [0xCB, 0xAB]
  | .res5H => [0xCB, 0xAC]
  | .res5L => [0xCB, 0xAD]
  | .res5MemHL => [0xCB, 0xAE]
  | .res5A => [0xCB, 0xAF]
  | .res6B => [0xCB, 0xB0]
  | .res6C => [0xCB, 0xB1]
  | .res6D => [0xCB, 0xB2]
  | .res6E => [0xCB, 0xB3]
  | .res6H => [0xCB, 0xB4]
  | .res6L => [0xCB, 0xB5]
  | .res6MemHL => [0xCB, 0xB6]
  | .res6A => [0xCB, 0xB7]
  | .res7B => [0xCB, 0xB8]
  | .res7C => [0xCB, 0xB9]
  | .res7D => [0xCB, 0xBA]
  | .res7E => [0xCB, 0xBB]
  | .res7H => [0xCB, 0xBC]
  | .res7L => [0xCB, 0xBD]
  | .res7MemHL => [0xCB, 0xBE]
  | .res7A => [0xCB, 0xBF]
  | .set0B => [0xCB, 0xC0]
  | .set0C => [0xCB, 0xC1]
  | .set0D => [0xCB, 0xC2]
  | .set0E => [0xCB, 0xC3]
  | .set0H => [0xCB, 0xC4]
  | .set0L => [0xCB, 0xC5]
  | .set0MemHL => [0xCB, 0xC6]
  | .set0A => [0xCB, 0xC7]
  | .set1B => [0xCB, 0xC8]
  | .set1C => [0xCB, 0xC9]
  | .set1D => [0xCB, 0xCA]
  | .set1E => [0xCB, 0xCB]
  | .set1H => [0xCB, 0xCC]
  | .set1L => [0xCB, 0xCD]
  | .set1MemHL => [0xCB, 0xCE]
  | .set1A => [0xCB, 0xCF]
  | .set2B => [0xCB, 0xD0]
  | .set2C => [0xCB, 0xD1]
  | .set2D => [0xCB, 0xD2]
  | .set2E => [0xCB, 0xD3]
  | .set2H => [0xCB, 0xD4]
  | .set2L => [0xCB, 0xD5]
  | .set2MemHL => [0xCB, 0xD6]
  | .set2A => [0xCB, 0xD7]
  | .set3B => [0xCB, 0xD8]
  | .set3C => [0xCB, 0xD9]
  | .set3D => [0xCB, 0xDA]
  | .set3E => [0xCB, 0xDB]
  | .set3H => [0xCB, 0xDC]
  | .set3L => [0xCB, 0xDD]
  | .set3MemHL => [0xCB, 0xDE]
  | .set3A => [0xCB, 0xDF]
  | .set4B => [0xCB, 0xE0]
  | .set4C => [0xCB, 0xE1]
  | .set4D => [0xCB, 0xE2]
  | .set4E => [0xCB, 0xE3]
  | .set4H => [0xCB, 0xE4]
  | .set4L => [0xCB, 0xE5]
  | .set4MemHL => [0xCB, 0xE6]
  | .set4A => [0xCB, 0xE7]
  | .set5B => [0xCB, 0xE8]
  | .set5C => [0xCB, 0xE9]
  | .set5D => [0xCB, 0xEA]
  | .set5E => [0xCB, 0xEB]
  | .set5H => [0xCB, 0xEC]
  | .set5L => [0xCB, 0xED]
  | .set5MemHL => [0xCB, 0xEE]
  | .set5A => [0xCB, 0xEF]
  | .set6B => [0xCB, 0xF0]
  | .set6C => [0xCB, 0xF1]
  | .set6D => [0xCB, 0xF2]
  | .set6E => [0xCB, 0xF3]
  | .set6H => [0xCB, 0xF4]
  | .set6L => [0xCB, 0xF5]
  | .set6MemHL => [0xCB, 0xF6]
  | .set6A => [0xCB, 0xF7]
  | .set7B => [0xCB, 0xF8]
  | .set7C => [0xCB, 0xF9]
  | .set7D => [0xCB, 0xFA]
  | .set7E => [0xCB, 0xFB]
  | .set7H => [0xCB, 0xFC]
  | .set7L => [0xCB, 0xFD]
  | .set7MemHL => [0xCB, 0xFE]
  | .set7A => [0xCB, 0xFF]

end Sys2Proof
end

