-- ==== Sys2Proof/Machine/State.lean ====
section
/-! DEFINITION. The state of the CORE as plain data (`10_state.md` R20 to R43), the reasons a step stops, and the state after reset. -/

namespace Sys2Proof.Machine

/-- The 64 KiB store (`20_memory.md` R50, R52) as (address, byte) pairs; an address not listed reads
`Config.unlistedByte`. Its canonical form is `Memory.wf` (Machine/Ops.lean). -/
abbrev Memory := List Host.Cell

/-- Everything the spec gives the machine. IE, IF, DIV, TIMA, TMA and TAC are bytes of `mem` (R39, R40). -/
structure State where
  /-- The accumulator, high half of AF (R20). -/
  a : Byte
  /-- The flag register, low half of AF: bits 7 Z, 6 N, 5 H, 4 C; bits 3:0 are hard-wired to zero (R22, R23), which
  `State.readF` and `State.writeF` say. -/
  f : Byte
  b : Byte
  c : Byte
  d : Byte
  e : Byte
  h : Byte
  l : Byte
  /-- The stack pointer (R25). -/
  sp : Word
  /-- The address of the next instruction-stream byte not yet fetched (R26). -/
  pc : Word
  /-- The last unprefixed byte fetched (R31). -/
  opcode : Byte
  /-- The model's own latch of `Step`'s local variable `a` (`40_execution_cycle.md` R102): the address `opcode` was
  fetched from, which the fault records (R240; log entry 4). -/
  opcodeAddr : Word
  /-- The remaining-cycles counter (R32). -/
  remaining : Nat
  /-- The total-cycles counter (R33). -/
  total : Nat
  /-- Set by STOP (R34). -/
  stopped : Bool
  /-- Set by HALT (R35). -/
  halted : Bool
  /-- The halt-bug-pending flag (R36). -/
  haltBug : Bool
  /-- The interrupt master enable IME (R37). -/
  ime : Bool
  /-- The pending enable `ime_pending` (R38). -/
  imePending : Bool
  /-- The 64 KiB store (`20_memory.md` R52). -/
  mem : Memory
deriving DecidableEq, Repr

/-- The one fault. -/
inductive Fault where
  /-- UnimplementedOpcode, cause code 0 (`60_exceptions.md` R240): raised by the eleven bytes of ILLEGAL_SET, by no
  other instruction. It records the opcode byte, the address it was fetched from, and the state at the fault, which is
  the state after the opcode fetch. Safe: the spec itself makes it terminal. -/
  | unimplementedOpcode (op : Byte) (address : Word) (atFault : State)
deriving DecidableEq, Repr

/-- The reasons an instruction has no meaning in the model. -/
inductive Refusal where
  /-- Raised by an arm of `exec` whose instruction has no meaning yet, by name. Safe: the run stops. No arm raises it now. -/
  | notModelled (mnemonic : String)
deriving DecidableEq, Repr

/-- What an instruction or a step answers (R100). -/
abbrev Result := Host.Outcome State Fault Refusal

/-- Power-on with these register values and this memory: the execution state is all zero (R42, R270). Bits 3:0 of F
are hard-wired to zero whatever AF holds (R23). -/
def State.powerOn (r : ResetRegs) (m : Memory) : State where
  a := r.af.extractLsb' 8 8
  f := r.af.extractLsb' 0 8 &&& 0xF0
  b := r.bc.extractLsb' 8 8
  c := r.bc.extractLsb' 0 8
  d := r.de.extractLsb' 8 8
  e := r.de.extractLsb' 0 8
  h := r.hl.extractLsb' 8 8
  l := r.hl.extractLsb' 0 8
  sp := r.sp
  pc := r.pc
  opcode := 0x00
  opcodeAddr := 0x0000
  remaining := 0
  total := 0
  stopped := false
  halted := false
  haltBug := false
  ime := false
  imePending := false
  mem := m

/-- The state right after power-on: RESET_REGS at its default, and memory with nothing listed (log entries 1, 2, 4). -/
def State.reset : State := State.powerOn Config.resetRegs []

end Sys2Proof.Machine
end

