-- ==== Sys2Proof/Machine/Params.lean ====
section
/-! DEFINITION. The parameters of `00_scope.md` R8 at the spec's defaults (`engineParams`), the constants that are no parameter, and what an instruction costs under given parameters (log entries 1, 2, 5, 6). -/

namespace Sys2Proof.Machine

/-- CYCLE_COST at its default for each opcode byte, 0x00 first: the `cost` column of `opcode_table.json` (R281). 0xCB
has the prefix's 4 (R106). An illegal byte has no cost; its 0 is never charged. -/
def opcodeCosts : List Nat :=
  [4, 12, 8, 8, 4, 4, 8, 4, 20, 8, 8, 8, 4, 4, 8, 4] ++
  [4, 12, 8, 8, 4, 4, 8, 4, 12, 8, 8, 8, 4, 4, 8, 4] ++
  [8, 12, 8, 8, 4, 4, 8, 4, 8, 8, 8, 8, 4, 4, 8, 4] ++
  [8, 12, 8, 8, 8, 8, 12, 4, 8, 8, 8, 8, 4, 4, 8, 4] ++
  [4, 4, 4, 4, 4, 4, 8, 4, 4, 4, 4, 4, 4, 4, 8, 4] ++
  [4, 4, 4, 4, 4, 4, 8, 4, 4, 4, 4, 4, 4, 4, 8, 4] ++
  [4, 4, 4, 4, 4, 4, 8, 4, 4, 4, 4, 4, 4, 4, 8, 4] ++
  [8, 8, 8, 8, 8, 8, 4, 8, 4, 4, 4, 4, 4, 4, 8, 4] ++
  [4, 4, 4, 4, 4, 4, 8, 4, 4, 4, 4, 4, 4, 4, 8, 4] ++
  [4, 4, 4, 4, 4, 4, 8, 4, 4, 4, 4, 4, 4, 4, 8, 4] ++
  [4, 4, 4, 4, 4, 4, 8, 4, 4, 4, 4, 4, 4, 4, 8, 4] ++
  [4, 4, 4, 4, 4, 4, 8, 4, 4, 4, 4, 4, 4, 4, 8, 4] ++
  [8, 12, 12, 16, 12, 16, 8, 16, 8, 16, 12, 4, 12, 24, 8, 16] ++
  [8, 12, 12, 0, 12, 16, 8, 16, 8, 16, 12, 0, 12, 0, 8, 16] ++
  [12, 12, 8, 0, 0, 16, 8, 16, 16, 4, 16, 0, 0, 0, 8, 16] ++
  [12, 12, 8, 4, 0, 16, 8, 16, 12, 8, 16, 4, 0, 0, 8, 16]

/-- CYCLE_COST at its default for a CB byte: 4 on a register, 8 on (HL) (`40_execution_cycle.md` R106). -/
def defaultCbCost (cb : Byte) : Nat := if cb.extractLsb' 0 3 = 6 then 8 else 4

/-- ILLEGAL_SET at its default (`30_encoding.md` R79). -/
def illegalSet : List Byte := [0xD3, 0xDB, 0xDD, 0xE3, 0xE4, 0xEB, 0xEC, 0xED, 0xF4, 0xFC, 0xFD]

/-- Every parameter at the spec's default (`00_scope.md` R8). MEM0 has none: the model's is all `Config.unlistedByte`
(log entry 1). -/
def engineParams : Params where
  mem0 := fun _ => Config.unlistedByte
  ieAddr := 0xFFFF
  ifAddr := 0xFF0F
  divAddr := 0xFF04
  timaAddr := 0xFF05
  tmaAddr := 0xFF06
  tacAddr := 0xFF07
  eiDelay := .nextStep
  serviceClearsHalt := false
  midOrder := .timerFirst
  stopLength := .two
  opcodeCost := fun op => opcodeCosts.getD op.toNat 0
  cbCost := defaultCbCost
  illegalSet := illegalSet
  resetRegs := Config.resetRegs

/-- PENDING_MASK: the five sources. It is no argument: the spec refuses every other value (`90_conflicts.md` C9,
`93_implementation_defined.md` I19). -/
def pendingMask : Byte := 0x1F

/-- Extra cost of a taken JP cc or JR cc (`46_control.md` R200). -/
def jumpTakenExtra : Nat := 4

/-- Extra cost of a taken CALL cc or RET cc (R200). -/
def callTakenExtra : Nat := 12

/-- The fixed latency of interrupt entry (`60_exceptions.md` R245). -/
def interruptLatency : Nat := 20

/-- What an instruction costs when no condition is taken: its opcode's base cost, and for a CB row the CB cost on top
(R106, R107). For the bare `prefixCb` it is the base cost alone, and the handler adds the CB cost (log entry 12). -/
def costOf (p : Params) (i : Instr) : Nat :=
  match encode i with
  | [] => 0
  | [op] => p.opcodeCost op
  | op :: b :: _ => p.opcodeCost op + if op = 0xCB then p.cbCost b else 0

end Sys2Proof.Machine
end

