-- ==== Sys2Proof/Machine/Ops.lean ====
section
/-! DEFINITION. The named operations over memory, registers, pairs and the stack; taking an interrupt and returning from one; raising the one fault. -/

namespace Sys2Proof.Machine

/-! ## Memory -/

/-- The byte at an address: what is listed, else `Config.unlistedByte`. -/
def Memory.read : Memory → Nat → Byte
  | [], _ => Config.unlistedByte
  | (k, v) :: m, addr => if k = addr then v else Memory.read m addr

/-- Memory without an entry for an address. -/
def Memory.erase : Memory → Nat → Memory
  | [], _ => []
  | (k, v) :: m, addr => if k = addr then Memory.erase m addr else (k, v) :: Memory.erase m addr

/-- Memory with an entry put at its place in rising order. -/
def Memory.insert : Memory → Nat → Byte → Memory
  | [], addr, v => [(addr, v)]
  | (k, w) :: m, addr, v => if addr < k then (addr, v) :: (k, w) :: m else (k, w) :: Memory.insert m addr v

/-- Store one byte. Storing what an unlisted address reads as removes the entry, so equal memories are equal lists. -/
def Memory.write (m : Memory) (addr : Nat) (v : Byte) : Memory :=
  if v = Config.unlistedByte then m.erase addr else (m.erase addr).insert addr v

/-- Every listed address is above `low`, in strictly rising order, inside the address space, and lists another byte
than an unlisted address reads as. -/
def Memory.sortedAbove : Int → Memory → Bool
  | _, [] => true
  | low, (k, v) :: m =>
    decide (low < k) && decide (k < 65536) && decide (v ≠ Config.unlistedByte) && Memory.sortedAbove k m

/-- The canonical form of memory. -/
def Memory.wf (m : Memory) : Bool := Memory.sortedAbove (-1) m

/-- `m` under the listed form of contents `g` at the addresses below a bound. -/
def Memory.fill (g : Nat → Byte) : Nat → Memory → Memory
  | 0, m => m
  | n + 1, m => Memory.fill g n (if g n = Config.unlistedByte then m else (n, g n) :: m)

/-- Contents given address by address, as MEM0 is (R8), in the canonical form. Irreducible, so that no tactic unfolds
65,536 addresses: `Memory.read_ofContents` (Laws/Memory.lean) says what it reads. -/
@[irreducible] def Memory.ofContents (mem0 : Word → Byte) : Memory :=
  Memory.fill (fun n => mem0 (BitVec.ofNat 16 n)) 65536 []

/-- `MemRead(addr, 1)` (`00_scope.md` R11). -/
def State.readByte (s : State) (addr : Word) : Byte := s.mem.read addr.toNat

/-- `MemWrite(addr, 1, v)` (R11). -/
def State.writeByte (s : State) (addr : Word) (v : Byte) : State :=
  { s with mem := s.mem.write addr.toNat v }

/-- `MemRMW(addr, g)`: one read, then one write of the same address (R11). -/
def State.modifyByte (s : State) (addr : Word) (g : Byte → Byte) : State :=
  s.writeByte addr (g (s.readByte addr))

/-! ## Registers and pairs -/

/-- Read an 8-bit register. -/
def State.getReg (s : State) : Reg8 → Byte
  | .b => s.b | .c => s.c | .d => s.d | .e => s.e | .h => s.h | .l => s.l | .a => s.a

/-- Write an 8-bit register. -/
def State.setReg (s : State) (r : Reg8) (v : Byte) : State :=
  match r with
  | .b => { s with b := v }
  | .c => { s with c := v }
  | .d => { s with d := v }
  | .e => { s with e := v }
  | .h => { s with h := v }
  | .l => { s with l := v }
  | .a => { s with a := v }

/-- A read of F: bits 3:0 read zero (`10_state.md` R23). -/
def State.readF (s : State) : Byte := s.f &&& 0xF0

/-- A write of F stores `v & 0xF0` (R23). -/
def State.writeF (s : State) (v : Byte) : State := { s with f := v &&& 0xF0 }

/-- HL as one 16-bit value (R21). -/
def State.hl (s : State) : Word := joinBytes s.h s.l

/-- Write HL: the high half to H, the low half to L (R21). -/
def State.setHL (s : State) (v : Word) : State := { s with h := highByte v, l := lowByte v }

/-- Read `rp[p]` (R21, R28). -/
def State.getPair (s : State) : Pair → Word
  | .bc => joinBytes s.b s.c
  | .de => joinBytes s.d s.e
  | .hl => joinBytes s.h s.l
  | .sp => s.sp

/-- Write `rp[p]` (R21, R28). -/
def State.setPair (s : State) (p : Pair) (v : Word) : State :=
  match p with
  | .bc => { s with b := highByte v, c := lowByte v }
  | .de => { s with d := highByte v, e := lowByte v }
  | .hl => { s with h := highByte v, l := lowByte v }
  | .sp => { s with sp := v }

/-- Read `rp2[q]` (R21, R29); AF reads F with bits 3:0 zero (R23). -/
def State.getStackPair (s : State) : StackPair → Word
  | .bc => joinBytes s.b s.c
  | .de => joinBytes s.d s.e
  | .hl => joinBytes s.h s.l
  | .af => joinBytes s.a s.readF

/-- Write `rp2[q]` (R21, R29); a write of AF stores F with bits 3:0 zero (R23). -/
def State.setStackPair (s : State) (q : StackPair) (v : Word) : State :=
  match q with
  | .bc => { s with b := highByte v, c := lowByte v }
  | .de => { s with d := highByte v, e := lowByte v }
  | .hl => { s with h := highByte v, l := lowByte v }
  | .af => { s with a := highByte v, f := lowByte v &&& 0xF0 }

/-- Add an extra cost to the remaining-cycles counter (`40_execution_cycle.md` R107, `46_control.md` R200). -/
def State.addCycles (s : State) (n : Nat) : State := { s with remaining := s.remaining + n }

/-- Write PC. -/
def State.jump (s : State) (target : Word) : State := { s with pc := target }

/-! ## Stack primitives -/

/-- `Push16(v)`: the high byte at SP-1, then the low byte at SP-2 (`20_memory.md` R57). -/
def State.push16 (s : State) (v : Word) : State :=
  { (s.writeByte (s.sp - 1) (highByte v)).writeByte (s.sp - 2) (lowByte v) with sp := s.sp - 2 }

/-- The value `Pop16()` returns: the low byte from SP, the high byte from SP+1 (R58). -/
def State.stackTop (s : State) : Word := joinBytes (s.readByte (s.sp + 1)) (s.readByte s.sp)

/-- `Pop16()`'s effect on SP (R58). -/
def State.dropTop (s : State) : State := { s with sp := s.sp + 2 }

/-- `Push16(pc); pc <- target`: the mutation of CALL, RST and interrupt entry (`46_control.md` R206, R211). -/
def State.call (s : State) (target : Word) : State := (s.push16 s.pc).jump target

/-- `pc <- Pop16()` (R208). -/
def State.popPc (s : State) : State := s.dropTop.jump s.stackTop

/-! ## Taking an interrupt, and returning from one -/

/-- `IE & IF & PENDING_MASK` (`60_exceptions.md` R242). -/
def State.pending (s : State) (p : Params) : Byte :=
  s.readByte p.ieAddr &&& s.readByte p.ifAddr &&& pendingMask

/-- The lowest set bit among the five sources, bit 0 the highest priority (R244). -/
def lowestSource (pend : Byte) : Option (Fin 5) :=
  if pend.getLsbD 0 then some 0
  else if pend.getLsbD 1 then some 1
  else if pend.getLsbD 2 then some 2
  else if pend.getLsbD 3 then some 3
  else if pend.getLsbD 4 then some 4
  else none

/-- The handler's address `0x40 + source_index*8` (R245). -/
def interruptVector (i : Fin 5) : Word := BitVec.ofNat 16 (0x40 + 8 * i.val)

/-- IF with the request bit of source `i` cleared. -/
def clearRequest (i : Fin 5) (v : Byte) : Byte := v &&& ~~~(1#8 <<< i.val)

/-- Interrupt entry, in R245's order: clear IME, clear the request bit, push PC, go to the vector, add the latency;
clear Halted only where SERVICE_CLEARS_HALT says so (R252). -/
def State.enterInterrupt (s : State) (p : Params) (i : Fin 5) : State :=
  let cleared := { s with ime := false }.modifyByte p.ifAddr (clearRequest i)
  let called := (cleared.call (interruptVector i)).addCycles interruptLatency
  { called with halted := called.halted && !p.serviceClearsHalt }

/-- `InterruptCheck()` (R243, R245): at most one entry, only when IME is 1. -/
def State.interruptCheck (s : State) (p : Params) : State :=
  if s.ime then
    match lowestSource (s.pending p) with
    | some i => s.enterInterrupt p i
    | none => s
  else s

/-- Return from an interrupt: pop PC and set IME at once (R248, `46_control.md` R210). -/
def State.returnFromInterrupt (s : State) : State := { s.popPc with ime := true }

/-! ## The one fault -/

/-- `raise UnimplementedOpcode(op, a)`, in the state after the opcode fetch (R240). -/
def raiseUnimplemented (op : Byte) (s : State) : Result :=
  .fault (.unimplementedOpcode op s.opcodeAddr s)

/-- The fault's cause code: "code 0, its only code" (R240). -/
def Fault.code : Fault → Nat
  | .unimplementedOpcode _ _ _ => 0

end Sys2Proof.Machine
end

