-- ==== Sys2Proof/Machine/Flags.lean ====
section
/-! DEFINITION. The four flags as bits 7 to 4 of F (`10_state.md` R22 to R24), the conditions that test them (R30), and every flag computation of the instruction rules. -/

namespace Sys2Proof.Machine

/-- The four flags, in F's order. -/
structure FlagBits where
  z : Bool
  n : Bool
  h : Bool
  c : Bool
deriving DecidableEq, Repr

/-- F's byte for four flags: bits 7 Z, 6 N, 5 H, 4 C, 3:0 zero (R22, R23). -/
def FlagBits.pack (fl : FlagBits) : Byte :=
  (BitVec.ofBool fl.z ++ BitVec.ofBool fl.n ++ BitVec.ofBool fl.h ++ BitVec.ofBool fl.c ++ 0#4)

/-- The Zero flag, bit 7 of F. -/
def State.flagZ (s : State) : Bool := s.f.getLsbD 7

/-- The Subtract flag, bit 6 of F. -/
def State.flagN (s : State) : Bool := s.f.getLsbD 6

/-- The Half-Carry flag, bit 5 of F. -/
def State.flagH (s : State) : Bool := s.f.getLsbD 5

/-- The Carry flag, bit 4 of F. -/
def State.flagC (s : State) : Bool := s.f.getLsbD 4

/-- Write all four flags. -/
def State.setFlags (s : State) (fl : FlagBits) : State := { s with f := fl.pack }

/-- The four flags read from F. -/
def State.flags (s : State) : FlagBits := { z := s.flagZ, n := s.flagN, h := s.flagH, c := s.flagC }

/-- The name of one flag. -/
inductive Flag where
  | z | n | h | c
deriving DecidableEq, Repr

/-- Read one flag (R24). -/
def State.getFlag (s : State) : Flag → Bool
  | .z => s.flagZ
  | .n => s.flagN
  | .h => s.flagH
  | .c => s.flagC

/-- Write one flag, "leaving the other three untouched" (R24). -/
def State.setFlag (s : State) (k : Flag) (v : Bool) : State :=
  match k with
  | .z => s.setFlags { s.flags with z := v }
  | .n => s.setFlags { s.flags with n := v }
  | .h => s.setFlags { s.flags with h := v }
  | .c => s.setFlags { s.flags with c := v }

/-- `cond(c)`: NZ, Z, NC, C (R30). -/
def State.cond (s : State) : Cond → Bool
  | .nz => !s.flagZ
  | .z => s.flagZ
  | .nc => !s.flagC
  | .c => s.flagC

/-- An 8-bit result with the flags that go with it. -/
structure AluResult where
  value : Byte
  flags : FlagBits
deriving DecidableEq, Repr

/-- `Add8(a, b, cin)` (`42_alu8.md` R141), on exact integers. -/
def add8 (a b : Byte) (cin : Bool) : AluResult :=
  let sum := a.toNat + b.toNat + cin.toNat
  let res := BitVec.ofNat 8 sum
  { value := res
    flags :=
      { z := decide (res = 0)
        n := false
        h := decide (a.toNat % 16 + b.toNat % 16 + cin.toNat > 0xF)
        c := decide (sum > 0xFF) } }

/-- `Sub8(a, b, cin)` (R142), on exact integers. -/
def sub8 (a b : Byte) (cin : Bool) : AluResult :=
  let dif : Int := (a.toNat : Int) - b.toNat - cin.toNat
  let res := BitVec.ofInt 8 dif
  { value := res
    flags :=
      { z := decide (res = 0)
        n := true
        h := decide (((a.toNat % 16 : Nat) : Int) - ((b.toNat % 16 : Nat) : Int) - cin.toNat < 0)
        c := decide (dif < 0) } }

/-- The result of AND, XOR and OR: Z from the result, N and C cleared, H fixed by the operation (R147 to R149). -/
def logic8 (res : Byte) (h : Bool) : AluResult :=
  { value := res, flags := { z := decide (res = 0), n := false, h := h, c := false } }

/-- The accumulator operation `o` on A and a source (R143 to R150); `carry` is the Carry flag before it. -/
def aluResult (o : AluOp) (a src : Byte) (carry : Bool) : AluResult :=
  match o with
  | .add => add8 a src false
  | .adc => add8 a src carry
  | .sub => sub8 a src false
  | .sbc => sub8 a src carry
  | .and => logic8 (a &&& src) true
  | .xor => logic8 (a ^^^ src) false
  | .or => logic8 (a ||| src) false
  | .cp => sub8 a src false

/-- INC of an 8-bit operand (R151): H from the value before; C kept. -/
def inc8 (v : Byte) (carry : Bool) : AluResult :=
  { value := v + 1
    flags := { z := decide (v + 1 = 0), n := false, h := decide (v.toNat % 16 = 0xF), c := carry } }

/-- DEC of an 8-bit operand (R153): H from the value before; C kept. -/
def dec8 (v : Byte) (carry : Bool) : AluResult :=
  { value := v - 1
    flags := { z := decide (v - 1 = 0), n := true, h := decide (v.toNat % 16 = 0x0), c := carry } }

/-- DAA (R155), on exact integers: both tests of the addition branch read A before the adjustment. -/
def daaResult (a : Byte) (fl : FlagBits) : AluResult :=
  let high := fl.c || (!fl.n && decide (a.toNat > 0x99))
  let low := fl.h || (!fl.n && decide (a.toNat % 16 > 0x9))
  let adjust : Int := (if high then 0x60 else 0) + (if low then 0x06 else 0)
  let res := BitVec.ofInt 8 (if fl.n then (a.toNat : Int) - adjust else a.toNat + adjust)
  { value := res, flags := { z := decide (res = 0), n := fl.n, h := false, c := high } }

/-- The rotate, shift or SWAP row `o` on a value, with the flags of R164 (R165 to R172); `carry` is the Carry flag before it. -/
def rotResult (o : RotOp) (v : Byte) (carry : Bool) : AluResult :=
  let top := v.getLsbD 7
  let bottom := v.getLsbD 0
  let intoBottom (b : Bool) : Byte := (v <<< 1) ||| (BitVec.ofBool b).setWidth 8
  let intoTop (b : Bool) : Byte := (v >>> 1) ||| ((BitVec.ofBool b).setWidth 8 <<< 7)
  let finish (res : Byte) (c : Bool) : AluResult :=
    { value := res, flags := { z := decide (res = 0), n := false, h := false, c := c } }
  match o with
  | .rlc => finish (intoBottom top) top
  | .rrc => finish (intoTop bottom) bottom
  | .rl => finish (intoBottom carry) top
  | .rr => finish (intoTop carry) bottom
  | .sla => finish (v <<< 1) top
  | .sra => finish ((v >>> 1) ||| (v &&& 0x80)) bottom
  | .swap => finish ((v <<< 4) ||| (v >>> 4)) false
  | .srl => finish (v >>> 1) bottom

/-- A 16-bit result with the flags that go with it. -/
structure WideResult where
  value : Word
  flags : FlagBits
deriving DecidableEq, Repr

/-- ADD HL,rr (`44_alu16.md` R180): H from bit 11, C from bit 15, N cleared, Z kept. -/
def addHL16 (hl v : Word) (z : Bool) : WideResult :=
  let sum := hl.toNat + v.toNat
  { value := BitVec.ofNat 16 sum
    flags :=
      { z := z
        n := false
        h := decide (hl.toNat % 4096 + v.toNat % 4096 > 0xFFF)
        c := decide (sum > 0xFFFF) } }

/-- `SPe8(e)` (R183): SP plus the signed displacement; H and C from the unsigned low bytes; Z and N cleared. -/
def spPlusE8 (sp : Word) (e : Byte) : WideResult :=
  { value := sp + sext16 e
    flags :=
      { z := false
        n := false
        h := decide (sp.toNat % 16 + e.toNat % 16 > 0xF)
        c := decide (sp.toNat % 256 + e.toNat > 0xFF) } }

end Sys2Proof.Machine
end

