-- ==== Sys2Proof/Machine/Alu16.lean ====
section
/-! DEFINITION. 16-bit arithmetic (`44_alu16.md` R180 to R185). -/

namespace Sys2Proof.Machine

/-! ## Shared operations -/

/-- `ADD HL,rr` (R180). -/
def addToHL (p : Pair) (s : State) : Result :=
  let r := addHL16 s.hl (s.getPair p) s.flagZ
  .next ((s.setHL r.value).setFlags r.flags)

/-- `rp[p] <- trunc_16(rp[p] + 1)`, no flag (R181). -/
def incPair (p : Pair) (s : State) : Result := .next (s.setPair p (s.getPair p + 1))

/-- `rp[p] <- trunc_16(rp[p] - 1)`, no flag (R182). -/
def decPair (p : Pair) (s : State) : Result := .next (s.setPair p (s.getPair p - 1))

/-- `dst <- SPe8()` with its flags (R183 to R185). -/
def loadSpPlus (dst : Pair) (e : Byte) (s : State) : Result :=
  let r := spPlusE8 s.sp e
  .next ((s.setPair dst r.value).setFlags r.flags)

/-! ## The meanings -/

/-- `ADD HL,BC` (R180). -/
def execAddHLBC (s : State) : Result := addToHL .bc s
/-- `ADD HL,DE` (R180). -/
def execAddHLDE (s : State) : Result := addToHL .de s
/-- `ADD HL,HL` (R180). -/
def execAddHLHL (s : State) : Result := addToHL .hl s
/-- `ADD HL,SP` (R180). -/
def execAddHLSP (s : State) : Result := addToHL .sp s
/-- `INC BC` (R181). -/
def execIncBC (s : State) : Result := incPair .bc s
/-- `INC DE` (R181). -/
def execIncDE (s : State) : Result := incPair .de s
/-- `INC HL` (R181). -/
def execIncHL (s : State) : Result := incPair .hl s
/-- `INC SP` (R181). -/
def execIncSP (s : State) : Result := incPair .sp s
/-- `DEC BC` (R182). -/
def execDecBC (s : State) : Result := decPair .bc s
/-- `DEC DE` (R182). -/
def execDecDE (s : State) : Result := decPair .de s
/-- `DEC HL` (R182). -/
def execDecHL (s : State) : Result := decPair .hl s
/-- `DEC SP` (R182). -/
def execDecSP (s : State) : Result := decPair .sp s
/-- `ADD SP,e8` (R184). -/
def execAddSPE8 (e : Byte) (s : State) : Result := loadSpPlus .sp e s
/-- `LD HL,SP+e8` (R185). -/
def execLdHLSPE8 (e : Byte) (s : State) : Result := loadSpPlus .hl e s

end Sys2Proof.Machine
end

