-- ==== Sys2Proof/Machine/Operands.lean ====
section
/-! DEFINITION. The operand forms: `r8[k]` with the memory-at-HL operand (`10_state.md` R27), the high page, immediates and displacements (`30_encoding.md` R72). -/

namespace Sys2Proof.Machine

/-- Read `r8[k]`: a register, or the byte in memory at HL (R27). -/
def State.readOperand (s : State) : Operand8 → Byte
  | .reg r => s.getReg r
  | .memHL => s.readByte s.hl

/-- Write `r8[k]` (R27). -/
def State.writeOperand (s : State) (o : Operand8) (v : Byte) : State :=
  match o with
  | .reg r => s.setReg r v
  | .memHL => s.writeByte s.hl v

/-- The address an `r8[k]` destination stores to: HL for the memory operand, none for a register. -/
def State.operandAddress (s : State) : Operand8 → Option Word
  | .reg _ => none
  | .memHL => some s.hl

/-- `0xFF00 | n`, the address of the LDH and LD (C) forms (R72). -/
def highPage (n : Byte) : Word := 0xFF00 ||| zext16 n

/-- The target of a relative jump: PC after the instruction plus the signed displacement (`46_control.md` R204). -/
def State.relativeTarget (s : State) (e : Byte) : Word := s.pc + sext16 e

end Sys2Proof.Machine
end

