-- ==== Sys2Proof/Machine/Alu8.lean ====
section
/-! DEFINITION. 8-bit arithmetic and logic (`42_alu8.md` R140 to R158). -/

namespace Sys2Proof.Machine

/-! ## Shared operations -/

/-- The accumulator operation `o` with source `src`: all four flags, and A unless it is CP (R143 to R150). -/
def State.accumulate (s : State) (o : AluOp) (src : Byte) : State :=
  let r := aluResult o s.a src s.flagC
  match o with
  | .cp => s.setFlags r.flags
  | .add | .adc | .sub | .sbc | .and | .xor | .or => (s.setReg .a r.value).setFlags r.flags

/-- Source forms (a) and (b) of R140: a register or the byte at HL. -/
def aluOperand (o : AluOp) (src : Operand8) (s : State) : Result := .next (s.accumulate o (s.readOperand src))

/-- Source form (c) of R140: the immediate byte. -/
def aluImmediate (o : AluOp) (n : Byte) (s : State) : Result := .next (s.accumulate o n)

/-- INC of a register or the byte at HL (R151, R152). -/
def incOperand (dst : Operand8) (s : State) : Result :=
  let r := inc8 (s.readOperand dst) s.flagC
  .next ((s.writeOperand dst r.value).setFlags r.flags)

/-- DEC of a register or the byte at HL (R153, R154). -/
def decOperand (dst : Operand8) (s : State) : Result :=
  let r := dec8 (s.readOperand dst) s.flagC
  .next ((s.writeOperand dst r.value).setFlags r.flags)

/-! ## The meanings -/

/-- `ADD A,B` (R143). -/
def execAddAB (s : State) : Result := aluOperand .add (.reg .b) s
/-- `ADD A,C` (R143). -/
def execAddAC (s : State) : Result := aluOperand .add (.reg .c) s
/-- `ADD A,D` (R143). -/
def execAddAD (s : State) : Result := aluOperand .add (.reg .d) s
/-- `ADD A,E` (R143). -/
def execAddAE (s : State) : Result := aluOperand .add (.reg .e) s
/-- `ADD A,H` (R143). -/
def execAddAH (s : State) : Result := aluOperand .add (.reg .h) s
/-- `ADD A,L` (R143). -/
def execAddAL (s : State) : Result := aluOperand .add (.reg .l) s
/-- `ADD A,(HL)` (R143). -/
def execAddAMemHL (s : State) : Result := aluOperand .add .memHL s
/-- `ADD A,A` (R143). -/
def execAddAA (s : State) : Result := aluOperand .add (.reg .a) s
/-- `ADD A,n8` (R143). -/
def execAddAN8 (n : Byte) (s : State) : Result := aluImmediate .add n s
/-- `ADC A,B` (R144). -/
def execAdcAB (s : State) : Result := aluOperand .adc (.reg .b) s
/-- `ADC A,C` (R144). -/
def execAdcAC (s : State) : Result := aluOperand .adc (.reg .c) s
/-- `ADC A,D` (R144). -/
def execAdcAD (s : State) : Result := aluOperand .adc (.reg .d) s
/-- `ADC A,E` (R144). -/
def execAdcAE (s : State) : Result := aluOperand .adc (.reg .e) s
/-- `ADC A,H` (R144). -/
def execAdcAH (s : State) : Result := aluOperand .adc (.reg .h) s
/-- `ADC A,L` (R144). -/
def execAdcAL (s : State) : Result := aluOperand .adc (.reg .l) s
/-- `ADC A,(HL)` (R144). -/
def execAdcAMemHL (s : State) : Result := aluOperand .adc .memHL s
/-- `ADC A,A` (R144). -/
def execAdcAA (s : State) : Result := aluOperand .adc (.reg .a) s
/-- `ADC A,n8` (R144). -/
def execAdcAN8 (n : Byte) (s : State) : Result := aluImmediate .adc n s
/-- `SUB A,B` (R145). -/
def execSubAB (s : State) : Result := aluOperand .sub (.reg .b) s
/-- `SUB A,C` (R145). -/
def execSubAC (s : State) : Result := aluOperand .sub (.reg .c) s
/-- `SUB A,D` (R145). -/
def execSubAD (s : State) : Result := aluOperand .sub (.reg .d) s
/-- `SUB A,E` (R145). -/
def execSubAE (s : State) : Result := aluOperand .sub (.reg .e) s
/-- `SUB A,H` (R145). -/
def execSubAH (s : State) : Result := aluOperand .sub (.reg .h) s
/-- `SUB A,L` (R145). -/
def execSubAL (s : State) : Result := aluOperand .sub (.reg .l) s
/-- `SUB A,(HL)` (R145). -/
def execSubAMemHL (s : State) : Result := aluOperand .sub .memHL s
/-- `SUB A,A` (R145). -/
def execSubAA (s : State) : Result := aluOperand .sub (.reg .a) s
/-- `SUB A,n8` (R145). -/
def execSubAN8 (n : Byte) (s : State) : Result := aluImmediate .sub n s
/-- `SBC A,B` (R146). -/
def execSbcAB (s : State) : Result := aluOperand .sbc (.reg .b) s
/-- `SBC A,C` (R146). -/
def execSbcAC (s : State) : Result := aluOperand .sbc (.reg .c) s
/-- `SBC A,D` (R146). -/
def execSbcAD (s : State) : Result := aluOperand .sbc (.reg .d) s
/-- `SBC A,E` (R146). -/
def execSbcAE (s : State) : Result := aluOperand .sbc (.reg .e) s
/-- `SBC A,H` (R146). -/
def execSbcAH (s : State) : Result := aluOperand .sbc (.reg .h) s
/-- `SBC A,L` (R146). -/
def execSbcAL (s : State) : Result := aluOperand .sbc (.reg .l) s
/-- `SBC A,(HL)` (R146). -/
def execSbcAMemHL (s : State) : Result := aluOperand .sbc .memHL s
/-- `SBC A,A` (R146). -/
def execSbcAA (s : State) : Result := aluOperand .sbc (.reg .a) s
/-- `SBC A,n8` (R146). -/
def execSbcAN8 (n : Byte) (s : State) : Result := aluImmediate .sbc n s
/-- `AND A,B` (R147). -/
def execAndAB (s : State) : Result := aluOperand .and (.reg .b) s
/-- `AND A,C` (R147). -/
def execAndAC (s : State) : Result := aluOperand .and (.reg .c) s
/-- `AND A,D` (R147). -/
def execAndAD (s : State) : Result := aluOperand .and (.reg .d) s
/-- `AND A,E` (R147). -/
def execAndAE (s : State) : Result := aluOperand .and (.reg .e) s
/-- `AND A,H` (R147). -/
def execAndAH (s : State) : Result := aluOperand .and (.reg .h) s
/-- `AND A,L` (R147). -/
def execAndAL (s : State) : Result := aluOperand .and (.reg .l) s
/-- `AND A,(HL)` (R147). -/
def execAndAMemHL (s : State) : Result := aluOperand .and .memHL s
/-- `AND A,A` (R147). -/
def execAndAA (s : State) : Result := aluOperand .and (.reg .a) s
/-- `AND A,n8` (R147). -/
def execAndAN8 (n : Byte) (s : State) : Result := aluImmediate .and n s
/-- `XOR A,B` (R148). -/
def execXorAB (s : State) : Result := aluOperand .xor (.reg .b) s
/-- `XOR A,C` (R148). -/
def execXorAC (s : State) : Result := aluOperand .xor (.reg .c) s
/-- `XOR A,D` (R148). -/
def execXorAD (s : State) : Result := aluOperand .xor (.reg .d) s
/-- `XOR A,E` (R148). -/
def execXorAE (s : State) : Result := aluOperand .xor (.reg .e) s
/-- `XOR A,H` (R148). -/
def execXorAH (s : State) : Result := aluOperand .xor (.reg .h) s
/-- `XOR A,L` (R148). -/
def execXorAL (s : State) : Result := aluOperand .xor (.reg .l) s
/-- `XOR A,(HL)` (R148). -/
def execXorAMemHL (s : State) : Result := aluOperand .xor .memHL s
/-- `XOR A,A` (R148). -/
def execXorAA (s : State) : Result := aluOperand .xor (.reg .a) s
/-- `XOR A,n8` (R148). -/
def execXorAN8 (n : Byte) (s : State) : Result := aluImmediate .xor n s
/-- `OR A,B` (R149). -/
def execOrAB (s : State) : Result := aluOperand .or (.reg .b) s
/-- `OR A,C` (R149). -/
def execOrAC (s : State) : Result := aluOperand .or (.reg .c) s
/-- `OR A,D` (R149). -/
def execOrAD (s : State) : Result := aluOperand .or (.reg .d) s
/-- `OR A,E` (R149). -/
def execOrAE (s : State) : Result := aluOperand .or (.reg .e) s
/-- `OR A,H` (R149). -/
def execOrAH (s : State) : Result := aluOperand .or (.reg .h) s
/-- `OR A,L` (R149). -/
def execOrAL (s : State) : Result := aluOperand .or (.reg .l) s
/-- `OR A,(HL)` (R149). -/
def execOrAMemHL (s : State) : Result := aluOperand .or .memHL s
/-- `OR A,A` (R149). -/
def execOrAA (s : State) : Result := aluOperand .or (.reg .a) s
/-- `OR A,n8` (R149). -/
def execOrAN8 (n : Byte) (s : State) : Result := aluImmediate .or n s
/-- `CP A,B` (R150). -/
def execCpAB (s : State) : Result := aluOperand .cp (.reg .b) s
/-- `CP A,C` (R150). -/
def execCpAC (s : State) : Result := aluOperand .cp (.reg .c) s
/-- `CP A,D` (R150). -/
def execCpAD (s : State) : Result := aluOperand .cp (.reg .d) s
/-- `CP A,E` (R150). -/
def execCpAE (s : State) : Result := aluOperand .cp (.reg .e) s
/-- `CP A,H` (R150). -/
def execCpAH (s : State) : Result := aluOperand .cp (.reg .h) s
/-- `CP A,L` (R150). -/
def execCpAL (s : State) : Result := aluOperand .cp (.reg .l) s
/-- `CP A,(HL)` (R150). -/
def execCpAMemHL (s : State) : Result := aluOperand .cp .memHL s
/-- `CP A,A` (R150). -/
def execCpAA (s : State) : Result := aluOperand .cp (.reg .a) s
/-- `CP A,n8` (R150). -/
def execCpAN8 (n : Byte) (s : State) : Result := aluImmediate .cp n s
/-- `INC B` (R151). -/
def execIncB (s : State) : Result := incOperand (.reg .b) s
/-- `INC C` (R151). -/
def execIncC (s : State) : Result := incOperand (.reg .c) s
/-- `INC D` (R151). -/
def execIncD (s : State) : Result := incOperand (.reg .d) s
/-- `INC E` (R151). -/
def execIncE (s : State) : Result := incOperand (.reg .e) s
/-- `INC H` (R151). -/
def execIncH (s : State) : Result := incOperand (.reg .h) s
/-- `INC L` (R151). -/
def execIncL (s : State) : Result := incOperand (.reg .l) s
/-- `INC (HL)` (R152). -/
def execIncMemHL (s : State) : Result := incOperand .memHL s
/-- `INC A` (R151). -/
def execIncA (s : State) : Result := incOperand (.reg .a) s
/-- `DEC B` (R153). -/
def execDecB (s : State) : Result := decOperand (.reg .b) s
/-- `DEC C` (R153). -/
def execDecC (s : State) : Result := decOperand (.reg .c) s
/-- `DEC D` (R153). -/
def execDecD (s : State) : Result := decOperand (.reg .d) s
/-- `DEC E` (R153). -/
def execDecE (s : State) : Result := decOperand (.reg .e) s
/-- `DEC H` (R153). -/
def execDecH (s : State) : Result := decOperand (.reg .h) s
/-- `DEC L` (R153). -/
def execDecL (s : State) : Result := decOperand (.reg .l) s
/-- `DEC (HL)` (R154). -/
def execDecMemHL (s : State) : Result := decOperand .memHL s
/-- `DEC A` (R153). -/
def execDecA (s : State) : Result := decOperand (.reg .a) s
/-- `DAA` (R155). -/
def execDaa (s : State) : Result := 
  let r := daaResult s.a s.flags
  .next ((s.setReg .a r.value).setFlags r.flags)
/-- `CPL` (R156). -/
def execCpl (s : State) : Result := .next (((s.setReg .a (~~~s.a)).setFlag .n true).setFlag .h true)
/-- `SCF` (R157). -/
def execScf (s : State) : Result := .next (((s.setFlag .c true).setFlag .n false).setFlag .h false)
/-- `CCF` (R158). -/
def execCcf (s : State) : Result := .next (((s.setFlag .c (!s.flagC)).setFlag .n false).setFlag .h false)

end Sys2Proof.Machine
end

