-- ==== Sys2Proof/Machine/Control.lean ====
section
/-! DEFINITION. Control transfer (`46_control.md` R200 to R212). PC already stands past the whole instruction. A taken condition adds its extra cost (R200); an untaken one does nothing. -/

namespace Sys2Proof.Machine

/-! ## Shared operations -/

/-- JP cc and JR cc (R202, R205). -/
def jumpIf (cc : Cond) (target : Word) (s : State) : Result :=
  if s.cond cc then .next ((s.jump target).addCycles jumpTakenExtra) else .next s

/-- CALL cc (R207). -/
def callIf (cc : Cond) (target : Word) (s : State) : Result :=
  if s.cond cc then .next ((s.call target).addCycles callTakenExtra) else .next s

/-- RET cc (R209). -/
def returnIf (cc : Cond) (s : State) : Result :=
  if s.cond cc then .next (s.popPc.addCycles callTakenExtra) else .next s

/-- `Push16(pc); pc <- zext_16(y * 8)` (R211). -/
def restart (y : Fin 8) (s : State) : Result := .next (s.call (BitVec.ofNat 16 (y.val * 8)))

/-! ## The meanings -/

/-- `JP n16` (R201). -/
def execJpN16 (n : Word) (s : State) : Result := .next (s.jump n)
/-- `JP NZ,n16` (R202). -/
def execJpNZN16 (n : Word) (s : State) : Result := jumpIf .nz n s
/-- `JP Z,n16` (R202). -/
def execJpZN16 (n : Word) (s : State) : Result := jumpIf .z n s
/-- `JP NC,n16` (R202). -/
def execJpNCN16 (n : Word) (s : State) : Result := jumpIf .nc n s
/-- `JP C,n16` (R202). -/
def execJpCN16 (n : Word) (s : State) : Result := jumpIf .c n s
/-- `JP HL` (R203). -/
def execJpHL (s : State) : Result := .next (s.jump s.hl)
/-- `JR e8` (R204). -/
def execJrE8 (e : Byte) (s : State) : Result := .next (s.jump (s.relativeTarget e))
/-- `JR NZ,e8` (R205). -/
def execJrNZE8 (e : Byte) (s : State) : Result := jumpIf .nz (s.relativeTarget e) s
/-- `JR Z,e8` (R205). -/
def execJrZE8 (e : Byte) (s : State) : Result := jumpIf .z (s.relativeTarget e) s
/-- `JR NC,e8` (R205). -/
def execJrNCE8 (e : Byte) (s : State) : Result := jumpIf .nc (s.relativeTarget e) s
/-- `JR C,e8` (R205). -/
def execJrCE8 (e : Byte) (s : State) : Result := jumpIf .c (s.relativeTarget e) s
/-- `CALL n16` (R206). -/
def execCallN16 (n : Word) (s : State) : Result := .next (s.call n)
/-- `CALL NZ,n16` (R207). -/
def execCallNZN16 (n : Word) (s : State) : Result := callIf .nz n s
/-- `CALL Z,n16` (R207). -/
def execCallZN16 (n : Word) (s : State) : Result := callIf .z n s
/-- `CALL NC,n16` (R207). -/
def execCallNCN16 (n : Word) (s : State) : Result := callIf .nc n s
/-- `CALL C,n16` (R207). -/
def execCallCN16 (n : Word) (s : State) : Result := callIf .c n s
/-- `RET` (R208). -/
def execRet (s : State) : Result := .next s.popPc
/-- `RET NZ` (R209). -/
def execRetNZ (s : State) : Result := returnIf .nz s
/-- `RET Z` (R209). -/
def execRetZ (s : State) : Result := returnIf .z s
/-- `RET NC` (R209). -/
def execRetNC (s : State) : Result := returnIf .nc s
/-- `RET C` (R209). -/
def execRetC (s : State) : Result := returnIf .c s
/-- `RETI` (R210). -/
def execReti (s : State) : Result := .next s.returnFromInterrupt
/-- `RST 0x00` (R211). -/
def execRst00 (s : State) : Result := restart 0 s
/-- `RST 0x08` (R211). -/
def execRst08 (s : State) : Result := restart 1 s
/-- `RST 0x10` (R211). -/
def execRst10 (s : State) : Result := restart 2 s
/-- `RST 0x18` (R211). -/
def execRst18 (s : State) : Result := restart 3 s
/-- `RST 0x20` (R211). -/
def execRst20 (s : State) : Result := restart 4 s
/-- `RST 0x28` (R211). -/
def execRst28 (s : State) : Result := restart 5 s
/-- `RST 0x30` (R211). -/
def execRst30 (s : State) : Result := restart 6 s
/-- `RST 0x38` (R211). -/
def execRst38 (s : State) : Result := restart 7 s

end Sys2Proof.Machine
end

