-- ==== Sys2Proof/Machine/Load16.lean ====
section
/-! DEFINITION. 16-bit loads and stack operations (`45_load16_stack.md` R190 to R195). Only POP AF writes flags. -/

namespace Sys2Proof.Machine

/-! ## Shared operations -/

/-- `rp[p] <- n16` (R190). -/
def loadPair (p : Pair) (n : Word) (s : State) : Result := .next (s.setPair p n)

/-- `Push16(rp2[q])` (R193). -/
def pushPair (q : StackPair) (s : State) : Result := .next (s.push16 (s.getStackPair q))

/-- `rp2[q] <- Pop16()` (R194, R195). -/
def popPair (q : StackPair) (s : State) : Result := .next (s.dropTop.setStackPair q s.stackTop)

/-! ## The meanings -/

/-- `LD BC,n16` (R190). -/
def execLdBCN16 (n : Word) (s : State) : Result := loadPair .bc n s
/-- `LD DE,n16` (R190). -/
def execLdDEN16 (n : Word) (s : State) : Result := loadPair .de n s
/-- `LD HL,n16` (R190). -/
def execLdHLN16 (n : Word) (s : State) : Result := loadPair .hl n s
/-- `LD SP,n16` (R190). -/
def execLdSPN16 (n : Word) (s : State) : Result := loadPair .sp n s
/-- `LD (n16),SP` (R191). -/
def execLdMemN16SP (n : Word) (s : State) : Result := .next ((s.writeByte n (lowByte s.sp)).writeByte (n + 1) (highByte s.sp))
/-- `LD SP,HL` (R192). -/
def execLdSPHL (s : State) : Result := .next (s.setPair .sp s.hl)
/-- `PUSH BC` (R193). -/
def execPushBC (s : State) : Result := pushPair .bc s
/-- `PUSH DE` (R193). -/
def execPushDE (s : State) : Result := pushPair .de s
/-- `PUSH HL` (R193). -/
def execPushHL (s : State) : Result := pushPair .hl s
/-- `PUSH AF` (R193). -/
def execPushAF (s : State) : Result := pushPair .af s
/-- `POP BC` (R194). -/
def execPopBC (s : State) : Result := popPair .bc s
/-- `POP DE` (R194). -/
def execPopDE (s : State) : Result := popPair .de s
/-- `POP HL` (R194). -/
def execPopHL (s : State) : Result := popPair .hl s
/-- `POP AF` (R195). -/
def execPopAF (s : State) : Result := popPair .af s

end Sys2Proof.Machine
end

