-- ==== Sys2Proof/Machine/Load8.lean ====
section
/-! DEFINITION. 8-bit loads and stores (`41_load8.md` R120 to R136). None writes a flag. PC already stands past the whole instruction (`10_state.md` R26). -/

namespace Sys2Proof.Machine

/-! ## Shared operations -/

/-- `r8[d] <- r8[s]`, either of them possibly the byte at HL (R120 to R122). -/
def loadOperand (dst src : Operand8) (s : State) : Result :=
  .next (s.writeOperand dst (s.readOperand src))

/-- `r8[d] <- n` (R123, R124). -/
def loadImmediate (dst : Operand8) (n : Byte) (s : State) : Result := .next (s.writeOperand dst n)

/-- `A <- MemRead(addr, 1)` (R125, R127, R129, R131). -/
def loadAccumulator (addr : Word) (s : State) : Result := .next (s.setReg .a (s.readByte addr))

/-- `MemWrite(addr, 1, A)` (R126, R128, R130, R132). -/
def storeAccumulator (addr : Word) (s : State) : Result := .next (s.writeByte addr s.a)

/-- `MemWrite(HL, 1, A); HL <- trunc_16(HL + delta)` (R133, R135). -/
def storeAccumulatorStepping (delta : Word) (s : State) : Result :=
  .next ((s.writeByte s.hl s.a).setHL (s.hl + delta))

/-- `A <- MemRead(HL, 1); HL <- trunc_16(HL + delta)` (R134, R136). -/
def loadAccumulatorStepping (delta : Word) (s : State) : Result :=
  .next ((s.setReg .a (s.readByte s.hl)).setHL (s.hl + delta))

/-! ## The meanings -/

/-- `LD B,B` (R120). -/
def execLdBB (s : State) : Result := loadOperand (.reg .b) (.reg .b) s
/-- `LD B,C` (R120). -/
def execLdBC (s : State) : Result := loadOperand (.reg .b) (.reg .c) s
/-- `LD B,D` (R120). -/
def execLdBD (s : State) : Result := loadOperand (.reg .b) (.reg .d) s
/-- `LD B,E` (R120). -/
def execLdBE (s : State) : Result := loadOperand (.reg .b) (.reg .e) s
/-- `LD B,H` (R120). -/
def execLdBH (s : State) : Result := loadOperand (.reg .b) (.reg .h) s
/-- `LD B,L` (R120). -/
def execLdBL (s : State) : Result := loadOperand (.reg .b) (.reg .l) s
/-- `LD B,(HL)` (R121). -/
def execLdBMemHL (s : State) : Result := loadOperand (.reg .b) .memHL s
/-- `LD B,A` (R120). -/
def execLdBA (s : State) : Result := loadOperand (.reg .b) (.reg .a) s
/-- `LD C,B` (R120). -/
def execLdCB (s : State) : Result := loadOperand (.reg .c) (.reg .b) s
/-- `LD C,C` (R120). -/
def execLdCC (s : State) : Result := loadOperand (.reg .c) (.reg .c) s
/-- `LD C,D` (R120). -/
def execLdCD (s : State) : Result := loadOperand (.reg .c) (.reg .d) s
/-- `LD C,E` (R120). -/
def execLdCE (s : State) : Result := loadOperand (.reg .c) (.reg .e) s
/-- `LD C,H` (R120). -/
def execLdCH (s : State) : Result := loadOperand (.reg .c) (.reg .h) s
/-- `LD C,L` (R120). -/
def execLdCL (s : State) : Result := loadOperand (.reg .c) (.reg .l) s
/-- `LD C,(HL)` (R121). -/
def execLdCMemHL (s : State) : Result := loadOperand (.reg .c) .memHL s
/-- `LD C,A` (R120). -/
def execLdCA (s : State) : Result := loadOperand (.reg .c) (.reg .a) s
/-- `LD D,B` (R120). -/
def execLdDB (s : State) : Result := loadOperand (.reg .d) (.reg .b) s
/-- `LD D,C` (R120). -/
def execLdDC (s : State) : Result := loadOperand (.reg .d) (.reg .c) s
/-- `LD D,D` (R120). -/
def execLdDD (s : State) : Result := loadOperand (.reg .d) (.reg .d) s
/-- `LD D,E` (R120). -/
def execLdDE (s : State) : Result := loadOperand (.reg .d) (.reg .e) s
/-- `LD D,H` (R120). -/
def execLdDH (s : State) : Result := loadOperand (.reg .d) (.reg .h) s
/-- `LD D,L` (R120). -/
def execLdDL (s : State) : Result := loadOperand (.reg .d) (.reg .l) s
/-- `LD D,(HL)` (R121). -/
def execLdDMemHL (s : State) : Result := loadOperand (.reg .d) .memHL s
/-- `LD D,A` (R120). -/
def execLdDA (s : State) : Result := loadOperand (.reg .d) (.reg .a) s
/-- `LD E,B` (R120). -/
def execLdEB (s : State) : Result := loadOperand (.reg .e) (.reg .b) s
/-- `LD E,C` (R120). -/
def execLdEC (s : State) : Result := loadOperand (.reg .e) (.reg .c) s
/-- `LD E,D` (R120). -/
def execLdED (s : State) : Result := loadOperand (.reg .e) (.reg .d) s
/-- `LD E,E` (R120). -/
def execLdEE (s : State) : Result := loadOperand (.reg .e) (.reg .e) s
/-- `LD E,H` (R120). -/
def execLdEH (s : State) : Result := loadOperand (.reg .e) (.reg .h) s
/-- `LD E,L` (R120). -/
def execLdEL (s : State) : Result := loadOperand (.reg .e) (.reg .l) s
/-- `LD E,(HL)` (R121). -/
def execLdEMemHL (s : State) : Result := loadOperand (.reg .e) .memHL s
/-- `LD E,A` (R120). -/
def execLdEA (s : State) : Result := loadOperand (.reg .e) (.reg .a) s
/-- `LD H,B` (R120). -/
def execLdHB (s : State) : Result := loadOperand (.reg .h) (.reg .b) s
/-- `LD H,C` (R120). -/
def execLdHC (s : State) : Result := loadOperand (.reg .h) (.reg .c) s
/-- `LD H,D` (R120). -/
def execLdHD (s : State) : Result := loadOperand (.reg .h) (.reg .d) s
/-- `LD H,E` (R120). -/
def execLdHE (s : State) : Result := loadOperand (.reg .h) (.reg .e) s
/-- `LD H,H` (R120). -/
def execLdHH (s : State) : Result := loadOperand (.reg .h) (.reg .h) s
/-- `LD H,L` (R120). -/
def execLdHL (s : State) : Result := loadOperand (.reg .h) (.reg .l) s
/-- `LD H,(HL)` (R121). -/
def execLdHMemHL (s : State) : Result := loadOperand (.reg .h) .memHL s
/-- `LD H,A` (R120). -/
def execLdHA (s : State) : Result := loadOperand (.reg .h) (.reg .a) s
/-- `LD L,B` (R120). -/
def execLdLB (s : State) : Result := loadOperand (.reg .l) (.reg .b) s
/-- `LD L,C` (R120). -/
def execLdLC (s : State) : Result := loadOperand (.reg .l) (.reg .c) s
/-- `LD L,D` (R120). -/
def execLdLD (s : State) : Result := loadOperand (.reg .l) (.reg .d) s
/-- `LD L,E` (R120). -/
def execLdLE (s : State) : Result := loadOperand (.reg .l) (.reg .e) s
/-- `LD L,H` (R120). -/
def execLdLH (s : State) : Result := loadOperand (.reg .l) (.reg .h) s
/-- `LD L,L` (R120). -/
def execLdLL (s : State) : Result := loadOperand (.reg .l) (.reg .l) s
/-- `LD L,(HL)` (R121). -/
def execLdLMemHL (s : State) : Result := loadOperand (.reg .l) .memHL s
/-- `LD L,A` (R120). -/
def execLdLA (s : State) : Result := loadOperand (.reg .l) (.reg .a) s
/-- `LD (HL),B` (R122). -/
def execLdMemHLB (s : State) : Result := loadOperand .memHL (.reg .b) s
/-- `LD (HL),C` (R122). -/
def execLdMemHLC (s : State) : Result := loadOperand .memHL (.reg .c) s
/-- `LD (HL),D` (R122). -/
def execLdMemHLD (s : State) : Result := loadOperand .memHL (.reg .d) s
/-- `LD (HL),E` (R122). -/
def execLdMemHLE (s : State) : Result := loadOperand .memHL (.reg .e) s
/-- `LD (HL),H` (R122). -/
def execLdMemHLH (s : State) : Result := loadOperand .memHL (.reg .h) s
/-- `LD (HL),L` (R122). -/
def execLdMemHLL (s : State) : Result := loadOperand .memHL (.reg .l) s
/-- `LD (HL),A` (R122). -/
def execLdMemHLA (s : State) : Result := loadOperand .memHL (.reg .a) s
/-- `LD A,B` (R120). -/
def execLdAB (s : State) : Result := loadOperand (.reg .a) (.reg .b) s
/-- `LD A,C` (R120). -/
def execLdAC (s : State) : Result := loadOperand (.reg .a) (.reg .c) s
/-- `LD A,D` (R120). -/
def execLdAD (s : State) : Result := loadOperand (.reg .a) (.reg .d) s
/-- `LD A,E` (R120). -/
def execLdAE (s : State) : Result := loadOperand (.reg .a) (.reg .e) s
/-- `LD A,H` (R120). -/
def execLdAH (s : State) : Result := loadOperand (.reg .a) (.reg .h) s
/-- `LD A,L` (R120). -/
def execLdAL (s : State) : Result := loadOperand (.reg .a) (.reg .l) s
/-- `LD A,(HL)` (R121). -/
def execLdAMemHL (s : State) : Result := loadOperand (.reg .a) .memHL s
/-- `LD A,A` (R120). -/
def execLdAA (s : State) : Result := loadOperand (.reg .a) (.reg .a) s
/-- `LD B,n8` (R123). -/
def execLdBN8 (n : Byte) (s : State) : Result := loadImmediate (.reg .b) n s
/-- `LD C,n8` (R123). -/
def execLdCN8 (n : Byte) (s : State) : Result := loadImmediate (.reg .c) n s
/-- `LD D,n8` (R123). -/
def execLdDN8 (n : Byte) (s : State) : Result := loadImmediate (.reg .d) n s
/-- `LD E,n8` (R123). -/
def execLdEN8 (n : Byte) (s : State) : Result := loadImmediate (.reg .e) n s
/-- `LD H,n8` (R123). -/
def execLdHN8 (n : Byte) (s : State) : Result := loadImmediate (.reg .h) n s
/-- `LD L,n8` (R123). -/
def execLdLN8 (n : Byte) (s : State) : Result := loadImmediate (.reg .l) n s
/-- `LD (HL),n8` (R124). -/
def execLdMemHLN8 (n : Byte) (s : State) : Result := loadImmediate .memHL n s
/-- `LD A,n8` (R123). -/
def execLdAN8 (n : Byte) (s : State) : Result := loadImmediate (.reg .a) n s
/-- `LD A,(BC)` (R125). -/
def execLdAMemBC (s : State) : Result := loadAccumulator (s.getPair .bc) s
/-- `LD (BC),A` (R126). -/
def execLdMemBCA (s : State) : Result := storeAccumulator (s.getPair .bc) s
/-- `LD A,(DE)` (R125). -/
def execLdAMemDE (s : State) : Result := loadAccumulator (s.getPair .de) s
/-- `LD (DE),A` (R126). -/
def execLdMemDEA (s : State) : Result := storeAccumulator (s.getPair .de) s
/-- `LD A,(n16)` (R127). -/
def execLdAMemN16 (n : Word) (s : State) : Result := loadAccumulator n s
/-- `LD (n16),A` (R128). -/
def execLdMemN16A (n : Word) (s : State) : Result := storeAccumulator n s
/-- `LDH A,(n8)` (R129). -/
def execLdhAMemN8 (n : Byte) (s : State) : Result := loadAccumulator (highPage n) s
/-- `LDH (n8),A` (R130). -/
def execLdhMemN8A (n : Byte) (s : State) : Result := storeAccumulator (highPage n) s
/-- `LD A,(C)` (R131). -/
def execLdAMemC (s : State) : Result := loadAccumulator (highPage s.c) s
/-- `LD (C),A` (R132). -/
def execLdMemCA (s : State) : Result := storeAccumulator (highPage s.c) s
/-- `LD (HL+),A` (R133). -/
def execLdMemHLIncA (s : State) : Result := storeAccumulatorStepping 1 s
/-- `LD A,(HL+)` (R134). -/
def execLdAMemHLInc (s : State) : Result := loadAccumulatorStepping 1 s
/-- `LD (HL-),A` (R135). -/
def execLdMemHLDecA (s : State) : Result := storeAccumulatorStepping (-1) s
/-- `LD A,(HL-)` (R136). -/
def execLdAMemHLDec (s : State) : Result := loadAccumulatorStepping (-1) s

end Sys2Proof.Machine
end

