-- ==== Sys2Proof/Machine/Misc.lean ====
section
/-! DEFINITION. Miscellaneous and system instructions (`47_misc_system.md` R220 to R226) and the bytes of ILLEGAL_SET (`30_encoding.md` R79). -/

namespace Sys2Proof.Machine

/-- `NOP` (R220). -/
def execNop (s : State) : Result := .next s
/-- `HALT` under given IE_ADDR and IF_ADDR (R221): with IME 0 and a pending interrupt it arms the HALT bug instead of
halting. -/
def haltWith (p : Params) (s : State) : Result :=
  if s.ime = false ∧ s.pending p ≠ 0 then .next { s with haltBug := true } else .next { s with halted := true }
/-- `HALT` (R221). -/
def execHalt (s : State) : Result := haltWith engineParams s
/-- `STOP` (R222): the padding byte is ignored. -/
def execStop (_pad : Byte) (s : State) : Result := .next { s with stopped := true }
/-- `DI` (R223). -/
def execDi (s : State) : Result := .next { s with ime := false, imePending := false }
/-- `EI` (R224). -/
def execEi (s : State) : Result := .next { s with imePending := true }
/-- The illegal byte 0xD3 (R226, R240). -/
def execIllegalD3 (s : State) : Result := raiseUnimplemented 0xD3 s
/-- The illegal byte 0xDB (R226, R240). -/
def execIllegalDB (s : State) : Result := raiseUnimplemented 0xDB s
/-- The illegal byte 0xDD (R226, R240). -/
def execIllegalDD (s : State) : Result := raiseUnimplemented 0xDD s
/-- The illegal byte 0xE3 (R226, R240). -/
def execIllegalE3 (s : State) : Result := raiseUnimplemented 0xE3 s
/-- The illegal byte 0xE4 (R226, R240). -/
def execIllegalE4 (s : State) : Result := raiseUnimplemented 0xE4 s
/-- The illegal byte 0xEB (R226, R240). -/
def execIllegalEB (s : State) : Result := raiseUnimplemented 0xEB s
/-- The illegal byte 0xEC (R226, R240). -/
def execIllegalEC (s : State) : Result := raiseUnimplemented 0xEC s
/-- The illegal byte 0xED (R226, R240). -/
def execIllegalED (s : State) : Result := raiseUnimplemented 0xED s
/-- The illegal byte 0xF4 (R226, R240). -/
def execIllegalF4 (s : State) : Result := raiseUnimplemented 0xF4 s
/-- The illegal byte 0xFC (R226, R240). -/
def execIllegalFC (s : State) : Result := raiseUnimplemented 0xFC s
/-- The illegal byte 0xFD (R226, R240). -/
def execIllegalFD (s : State) : Result := raiseUnimplemented 0xFD s

end Sys2Proof.Machine
end

