-- ==== Sys2Proof/Machine/RotateShift.lean ====
section
/-! DEFINITION. Rotates, shifts, SWAP and bit operations (`43_rotate_shift_bit.md` R160 to R175), and the handler of the prefix 0xCB (`40_execution_cycle.md` R106). -/

namespace Sys2Proof.Machine

/-! ## Shared operations -/

/-- An accumulator rotate: as the CB row on A, but Z "is always cleared regardless of result" (R160 to R163). -/
def rotateAccumulator (o : RotOp) (s : State) : Result :=
  let r := rotResult o s.a s.flagC
  .next ((s.setReg .a r.value).setFlags { r.flags with z := false })

/-- The CB row `o` on a register or, in place, on the byte at HL (R164). -/
def State.rotate (s : State) (o : RotOp) (dst : Operand8) : State :=
  let r := rotResult o (s.readOperand dst) s.flagC
  (s.writeOperand dst r.value).setFlags r.flags

/-- BIT: Z from the complement of the tested bit, N 0, H 1, C kept; the operand is not written (R173). -/
def State.bitTest (s : State) (b : Fin 8) (src : Operand8) : State :=
  s.setFlags { z := !(s.readOperand src).getLsbD b.val, n := false, h := true, c := s.flagC }

/-- RES: the bit cleared, no flag (R174). -/
def State.bitReset (s : State) (b : Fin 8) (dst : Operand8) : State :=
  s.writeOperand dst (s.readOperand dst &&& ~~~(1#8 <<< b.val))

/-- SET: the bit set, no flag (R175). -/
def State.bitSet (s : State) (b : Fin 8) (dst : Operand8) : State :=
  s.writeOperand dst (s.readOperand dst ||| (1#8 <<< b.val))

/-- `ExecuteCB(cbop)`: the operation of the CB table's row (R106, `30_encoding.md` R80). -/
def State.executeCb (s : State) (cb : Byte) : State :=
  match fieldX cb with
  | 0 => s.rotate (rotOfField (fieldY cb)) (operandOfField (fieldZ cb))
  | 1 => s.bitTest (fieldY cb) (operandOfField (fieldZ cb))
  | 2 => s.bitReset (fieldY cb) (operandOfField (fieldZ cb))
  | 3 => s.bitSet (fieldY cb) (operandOfField (fieldZ cb))

/-! ## The meanings -/

/-- `RLCA` (R160). -/
def execRlca (s : State) : Result := rotateAccumulator .rlc s
/-- `RRCA` (R161). -/
def execRrca (s : State) : Result := rotateAccumulator .rrc s
/-- `RLA` (R162). -/
def execRla (s : State) : Result := rotateAccumulator .rl s
/-- `RRA` (R163). -/
def execRra (s : State) : Result := rotateAccumulator .rr s
/-- `PREFIX CB` under a given CYCLE_COST: fetch one more byte, run its row of the CB table, add that row's cost (R106).
A step decodes both bytes at once and runs the row's own constructor (log entry 11). -/
def prefixCbWith (p : Params) (s : State) : Result :=
  let cb := s.readByte s.pc
  .next (({ s with pc := s.pc + 1 }.executeCb cb).addCycles (p.cbCost cb))
/-- `PREFIX CB` (R106). -/
def execPrefixCb (s : State) : Result := prefixCbWith engineParams s
/-- `RLC B` (R165). -/
def execRlcB (s : State) : Result := .next (s.rotate .rlc (.reg .b))
/-- `RLC C` (R165). -/
def execRlcC (s : State) : Result := .next (s.rotate .rlc (.reg .c))
/-- `RLC D` (R165). -/
def execRlcD (s : State) : Result := .next (s.rotate .rlc (.reg .d))
/-- `RLC E` (R165). -/
def execRlcE (s : State) : Result := .next (s.rotate .rlc (.reg .e))
/-- `RLC H` (R165). -/
def execRlcH (s : State) : Result := .next (s.rotate .rlc (.reg .h))
/-- `RLC L` (R165). -/
def execRlcL (s : State) : Result := .next (s.rotate .rlc (.reg .l))
/-- `RLC (HL)` (R165). -/
def execRlcMemHL (s : State) : Result := .next (s.rotate .rlc .memHL)
/-- `RLC A` (R165). -/
def execRlcA (s : State) : Result := .next (s.rotate .rlc (.reg .a))
/-- `RRC B` (R166). -/
def execRrcB (s : State) : Result := .next (s.rotate .rrc (.reg .b))
/-- `RRC C` (R166). -/
def execRrcC (s : State) : Result := .next (s.rotate .rrc (.reg .c))
/-- `RRC D` (R166). -/
def execRrcD (s : State) : Result := .next (s.rotate .rrc (.reg .d))
/-- `RRC E` (R166). -/
def execRrcE (s : State) : Result := .next (s.rotate .rrc (.reg .e))
/-- `RRC H` (R166). -/
def execRrcH (s : State) : Result := .next (s.rotate .rrc (.reg .h))
/-- `RRC L` (R166). -/
def execRrcL (s : State) : Result := .next (s.rotate .rrc (.reg .l))
/-- `RRC (HL)` (R166). -/
def execRrcMemHL (s : State) : Result := .next (s.rotate .rrc .memHL)
/-- `RRC A` (R166). -/
def execRrcA (s : State) : Result := .next (s.rotate .rrc (.reg .a))
/-- `RL B` (R167). -/
def execRlB (s : State) : Result := .next (s.rotate .rl (.reg .b))
/-- `RL C` (R167). -/
def execRlC (s : State) : Result := .next (s.rotate .rl (.reg .c))
/-- `RL D` (R167). -/
def execRlD (s : State) : Result := .next (s.rotate .rl (.reg .d))
/-- `RL E` (R167). -/
def execRlE (s : State) : Result := .next (s.rotate .rl (.reg .e))
/-- `RL H` (R167). -/
def execRlH (s : State) : Result := .next (s.rotate .rl (.reg .h))
/-- `RL L` (R167). -/
def execRlL (s : State) : Result := .next (s.rotate .rl (.reg .l))
/-- `RL (HL)` (R167). -/
def execRlMemHL (s : State) : Result := .next (s.rotate .rl .memHL)
/-- `RL A` (R167). -/
def execRlA (s : State) : Result := .next (s.rotate .rl (.reg .a))
/-- `RR B` (R168). -/
def execRrB (s : State) : Result := .next (s.rotate .rr (.reg .b))
/-- `RR C` (R168). -/
def execRrC (s : State) : Result := .next (s.rotate .rr (.reg .c))
/-- `RR D` (R168). -/
def execRrD (s : State) : Result := .next (s.rotate .rr (.reg .d))
/-- `RR E` (R168). -/
def execRrE (s : State) : Result := .next (s.rotate .rr (.reg .e))
/-- `RR H` (R168). -/
def execRrH (s : State) : Result := .next (s.rotate .rr (.reg .h))
/-- `RR L` (R168). -/
def execRrL (s : State) : Result := .next (s.rotate .rr (.reg .l))
/-- `RR (HL)` (R168). -/
def execRrMemHL (s : State) : Result := .next (s.rotate .rr .memHL)
/-- `RR A` (R168). -/
def execRrA (s : State) : Result := .next (s.rotate .rr (.reg .a))
/-- `SLA B` (R169). -/
def execSlaB (s : State) : Result := .next (s.rotate .sla (.reg .b))
/-- `SLA C` (R169). -/
def execSlaC (s : State) : Result := .next (s.rotate .sla (.reg .c))
/-- `SLA D` (R169). -/
def execSlaD (s : State) : Result := .next (s.rotate .sla (.reg .d))
/-- `SLA E` (R169). -/
def execSlaE (s : State) : Result := .next (s.rotate .sla (.reg .e))
/-- `SLA H` (R169). -/
def execSlaH (s : State) : Result := .next (s.rotate .sla (.reg .h))
/-- `SLA L` (R169). -/
def execSlaL (s : State) : Result := .next (s.rotate .sla (.reg .l))
/-- `SLA (HL)` (R169). -/
def execSlaMemHL (s : State) : Result := .next (s.rotate .sla .memHL)
/-- `SLA A` (R169). -/
def execSlaA (s : State) : Result := .next (s.rotate .sla (.reg .a))
/-- `SRA B` (R170). -/
def execSraB (s : State) : Result := .next (s.rotate .sra (.reg .b))
/-- `SRA C` (R170). -/
def execSraC (s : State) : Result := .next (s.rotate .sra (.reg .c))
/-- `SRA D` (R170). -/
def execSraD (s : State) : Result := .next (s.rotate .sra (.reg .d))
/-- `SRA E` (R170). -/
def execSraE (s : State) : Result := .next (s.rotate .sra (.reg .e))
/-- `SRA H` (R170). -/
def execSraH (s : State) : Result := .next (s.rotate .sra (.reg .h))
/-- `SRA L` (R170). -/
def execSraL (s : State) : Result := .next (s.rotate .sra (.reg .l))
/-- `SRA (HL)` (R170). -/
def execSraMemHL (s : State) : Result := .next (s.rotate .sra .memHL)
/-- `SRA A` (R170). -/
def execSraA (s : State) : Result := .next (s.rotate .sra (.reg .a))
/-- `SWAP B` (R171). -/
def execSwapB (s : State) : Result := .next (s.rotate .swap (.reg .b))
/-- `SWAP C` (R171). -/
def execSwapC (s : State) : Result := .next (s.rotate .swap (.reg .c))
/-- `SWAP D` (R171). -/
def execSwapD (s : State) : Result := .next (s.rotate .swap (.reg .d))
/-- `SWAP E` (R171). -/
def execSwapE (s : State) : Result := .next (s.rotate .swap (.reg .e))
/-- `SWAP H` (R171). -/
def execSwapH (s : State) : Result := .next (s.rotate .swap (.reg .h))
/-- `SWAP L` (R171). -/
def execSwapL (s : State) : Result := .next (s.rotate .swap (.reg .l))
/-- `SWAP (HL)` (R171). -/
def execSwapMemHL (s : State) : Result := .next (s.rotate .swap .memHL)
/-- `SWAP A` (R171). -/
def execSwapA (s : State) : Result := .next (s.rotate .swap (.reg .a))
/-- `SRL B` (R172). -/
def execSrlB (s : State) : Result := .next (s.rotate .srl (.reg .b))
/-- `SRL C` (R172). -/
def execSrlC (s : State) : Result := .next (s.rotate .srl (.reg .c))
/-- `SRL D` (R172). -/
def execSrlD (s : State) : Result := .next (s.rotate .srl (.reg .d))
/-- `SRL E` (R172). -/
def execSrlE (s : State) : Result := .next (s.rotate .srl (.reg .e))
/-- `SRL H` (R172). -/
def execSrlH (s : State) : Result := .next (s.rotate .srl (.reg .h))
/-- `SRL L` (R172). -/
def execSrlL (s : State) : Result := .next (s.rotate .srl (.reg .l))
/-- `SRL (HL)` (R172). -/
def execSrlMemHL (s : State) : Result := .next (s.rotate .srl .memHL)
/-- `SRL A` (R172). -/
def execSrlA (s : State) : Result := .next (s.rotate .srl (.reg .a))
/-- `BIT 0,B` (R173). -/
def execBit0B (s : State) : Result := .next (s.bitTest 0 (.reg .b))
/-- `BIT 0,C` (R173). -/
def execBit0C (s : State) : Result := .next (s.bitTest 0 (.reg .c))
/-- `BIT 0,D` (R173). -/
def execBit0D (s : State) : Result := .next (s.bitTest 0 (.reg .d))
/-- `BIT 0,E` (R173). -/
def execBit0E (s : State) : Result := .next (s.bitTest 0 (.reg .e))
/-- `BIT 0,H` (R173). -/
def execBit0H (s : State) : Result := .next (s.bitTest 0 (.reg .h))
/-- `BIT 0,L` (R173). -/
def execBit0L (s : State) : Result := .next (s.bitTest 0 (.reg .l))
/-- `BIT 0,(HL)` (R173). -/
def execBit0MemHL (s : State) : Result := .next (s.bitTest 0 .memHL)
/-- `BIT 0,A` (R173). -/
def execBit0A (s : State) : Result := .next (s.bitTest 0 (.reg .a))
/-- `BIT 1,B` (R173). -/
def execBit1B (s : State) : Result := .next (s.bitTest 1 (.reg .b))
/-- `BIT 1,C` (R173). -/
def execBit1C (s : State) : Result := .next (s.bitTest 1 (.reg .c))
/-- `BIT 1,D` (R173). -/
def execBit1D (s : State) : Result := .next (s.bitTest 1 (.reg .d))
/-- `BIT 1,E` (R173). -/
def execBit1E (s : State) : Result := .next (s.bitTest 1 (.reg .e))
/-- `BIT 1,H` (R173). -/
def execBit1H (s : State) : Result := .next (s.bitTest 1 (.reg .h))
/-- `BIT 1,L` (R173). -/
def execBit1L (s : State) : Result := .next (s.bitTest 1 (.reg .l))
/-- `BIT 1,(HL)` (R173). -/
def execBit1MemHL (s : State) : Result := .next (s.bitTest 1 .memHL)
/-- `BIT 1,A` (R173). -/
def execBit1A (s : State) : Result := .next (s.bitTest 1 (.reg .a))
/-- `BIT 2,B` (R173). -/
def execBit2B (s : State) : Result := .next (s.bitTest 2 (.reg .b))
/-- `BIT 2,C` (R173). -/
def execBit2C (s : State) : Result := .next (s.bitTest 2 (.reg .c))
/-- `BIT 2,D` (R173). -/
def execBit2D (s : State) : Result := .next (s.bitTest 2 (.reg .d))
/-- `BIT 2,E` (R173). -/
def execBit2E (s : State) : Result := .next (s.bitTest 2 (.reg .e))
/-- `BIT 2,H` (R173). -/
def execBit2H (s : State) : Result := .next (s.bitTest 2 (.reg .h))
/-- `BIT 2,L` (R173). -/
def execBit2L (s : State) : Result := .next (s.bitTest 2 (.reg .l))
/-- `BIT 2,(HL)` (R173). -/
def execBit2MemHL (s : State) : Result := .next (s.bitTest 2 .memHL)
/-- `BIT 2,A` (R173). -/
def execBit2A (s : State) : Result := .next (s.bitTest 2 (.reg .a))
/-- `BIT 3,B` (R173). -/
def execBit3B (s : State) : Result := .next (s.bitTest 3 (.reg .b))
/-- `BIT 3,C` (R173). -/
def execBit3C (s : State) : Result := .next (s.bitTest 3 (.reg .c))
/-- `BIT 3,D` (R173). -/
def execBit3D (s : State) : Result := .next (s.bitTest 3 (.reg .d))
/-- `BIT 3,E` (R173). -/
def execBit3E (s : State) : Result := .next (s.bitTest 3 (.reg .e))
/-- `BIT 3,H` (R173). -/
def execBit3H (s : State) : Result := .next (s.bitTest 3 (.reg .h))
/-- `BIT 3,L` (R173). -/
def execBit3L (s : State) : Result := .next (s.bitTest 3 (.reg .l))
/-- `BIT 3,(HL)` (R173). -/
def execBit3MemHL (s : State) : Result := .next (s.bitTest 3 .memHL)
/-- `BIT 3,A` (R173). -/
def execBit3A (s : State) : Result := .next (s.bitTest 3 (.reg .a))
/-- `BIT 4,B` (R173). -/
def execBit4B (s : State) : Result := .next (s.bitTest 4 (.reg .b))
/-- `BIT 4,C` (R173). -/
def execBit4C (s : State) : Result := .next (s.bitTest 4 (.reg .c))
/-- `BIT 4,D` (R173). -/
def execBit4D (s : State) : Result := .next (s.bitTest 4 (.reg .d))
/-- `BIT 4,E` (R173). -/
def execBit4E (s : State) : Result := .next (s.bitTest 4 (.reg .e))
/-- `BIT 4,H` (R173). -/
def execBit4H (s : State) : Result := .next (s.bitTest 4 (.reg .h))
/-- `BIT 4,L` (R173). -/
def execBit4L (s : State) : Result := .next (s.bitTest 4 (.reg .l))
/-- `BIT 4,(HL)` (R173). -/
def execBit4MemHL (s : State) : Result := .next (s.bitTest 4 .memHL)
/-- `BIT 4,A` (R173). -/
def execBit4A (s : State) : Result := .next (s.bitTest 4 (.reg .a))
/-- `BIT 5,B` (R173). -/
def execBit5B (s : State) : Result := .next (s.bitTest 5 (.reg .b))
/-- `BIT 5,C` (R173). -/
def execBit5C (s : State) : Result := .next (s.bitTest 5 (.reg .c))
/-- `BIT 5,D` (R173). -/
def execBit5D (s : State) : Result := .next (s.bitTest 5 (.reg .d))
/-- `BIT 5,E` (R173). -/
def execBit5E (s : State) : Result := .next (s.bitTest 5 (.reg .e))
/-- `BIT 5,H` (R173). -/
def execBit5H (s : State) : Result := .next (s.bitTest 5 (.reg .h))
/-- `BIT 5,L` (R173). -/
def execBit5L (s : State) : Result := .next (s.bitTest 5 (.reg .l))
/-- `BIT 5,(HL)` (R173). -/
def execBit5MemHL (s : State) : Result := .next (s.bitTest 5 .memHL)
/-- `BIT 5,A` (R173). -/
def execBit5A (s : State) : Result := .next (s.bitTest 5 (.reg .a))
/-- `BIT 6,B` (R173). -/
def execBit6B (s : State) : Result := .next (s.bitTest 6 (.reg .b))
/-- `BIT 6,C` (R173). -/
def execBit6C (s : State) : Result := .next (s.bitTest 6 (.reg .c))
/-- `BIT 6,D` (R173). -/
def execBit6D (s : State) : Result := .next (s.bitTest 6 (.reg .d))
/-- `BIT 6,E` (R173). -/
def execBit6E (s : State) : Result := .next (s.bitTest 6 (.reg .e))
/-- `BIT 6,H` (R173). -/
def execBit6H (s : State) : Result := .next (s.bitTest 6 (.reg .h))
/-- `BIT 6,L` (R173). -/
def execBit6L (s : State) : Result := .next (s.bitTest 6 (.reg .l))
/-- `BIT 6,(HL)` (R173). -/
def execBit6MemHL (s : State) : Result := .next (s.bitTest 6 .memHL)
/-- `BIT 6,A` (R173). -/
def execBit6A (s : State) : Result := .next (s.bitTest 6 (.reg .a))
/-- `BIT 7,B` (R173). -/
def execBit7B (s : State) : Result := .next (s.bitTest 7 (.reg .b))
/-- `BIT 7,C` (R173). -/
def execBit7C (s : State) : Result := .next (s.bitTest 7 (.reg .c))
/-- `BIT 7,D` (R173). -/
def execBit7D (s : State) : Result := .next (s.bitTest 7 (.reg .d))
/-- `BIT 7,E` (R173). -/
def execBit7E (s : State) : Result := .next (s.bitTest 7 (.reg .e))
/-- `BIT 7,H` (R173). -/
def execBit7H (s : State) : Result := .next (s.bitTest 7 (.reg .h))
/-- `BIT 7,L` (R173). -/
def execBit7L (s : State) : Result := .next (s.bitTest 7 (.reg .l))
/-- `BIT 7,(HL)` (R173). -/
def execBit7MemHL (s : State) : Result := .next (s.bitTest 7 .memHL)
/-- `BIT 7,A` (R173). -/
def execBit7A (s : State) : Result := .next (s.bitTest 7 (.reg .a))
/-- `RES 0,B` (R174). -/
def execRes0B (s : State) : Result := .next (s.bitReset 0 (.reg .b))
/-- `RES 0,C` (R174). -/
def execRes0C (s : State) : Result := .next (s.bitReset 0 (.reg .c))
/-- `RES 0,D` (R174). -/
def execRes0D (s : State) : Result := .next (s.bitReset 0 (.reg .d))
/-- `RES 0,E` (R174). -/
def execRes0E (s : State) : Result := .next (s.bitReset 0 (.reg .e))
/-- `RES 0,H` (R174). -/
def execRes0H (s : State) : Result := .next (s.bitReset 0 (.reg .h))
/-- `RES 0,L` (R174). -/
def execRes0L (s : State) : Result := .next (s.bitReset 0 (.reg .l))
/-- `RES 0,(HL)` (R174). -/
def execRes0MemHL (s : State) : Result := .next (s.bitReset 0 .memHL)
/-- `RES 0,A` (R174). -/
def execRes0A (s : State) : Result := .next (s.bitReset 0 (.reg .a))
/-- `RES 1,B` (R174). -/
def execRes1B (s : State) : Result := .next (s.bitReset 1 (.reg .b))
/-- `RES 1,C` (R174). -/
def execRes1C (s : State) : Result := .next (s.bitReset 1 (.reg .c))
/-- `RES 1,D` (R174). -/
def execRes1D (s : State) : Result := .next (s.bitReset 1 (.reg .d))
/-- `RES 1,E` (R174). -/
def execRes1E (s : State) : Result := .next (s.bitReset 1 (.reg .e))
/-- `RES 1,H` (R174). -/
def execRes1H (s : State) : Result := .next (s.bitReset 1 (.reg .h))
/-- `RES 1,L` (R174). -/
def execRes1L (s : State) : Result := .next (s.bitReset 1 (.reg .l))
/-- `RES 1,(HL)` (R174). -/
def execRes1MemHL (s : State) : Result := .next (s.bitReset 1 .memHL)
/-- `RES 1,A` (R174). -/
def execRes1A (s : State) : Result := .next (s.bitReset 1 (.reg .a))
/-- `RES 2,B` (R174). -/
def execRes2B (s : State) : Result := .next (s.bitReset 2 (.reg .b))
/-- `RES 2,C` (R174). -/
def execRes2C (s : State) : Result := .next (s.bitReset 2 (.reg .c))
/-- `RES 2,D` (R174). -/
def execRes2D (s : State) : Result := .next (s.bitReset 2 (.reg .d))
/-- `RES 2,E` (R174). -/
def execRes2E (s : State) : Result := .next (s.bitReset 2 (.reg .e))
/-- `RES 2,H` (R174). -/
def execRes2H (s : State) : Result := .next (s.bitReset 2 (.reg .h))
/-- `RES 2,L` (R174). -/
def execRes2L (s : State) : Result := .next (s.bitReset 2 (.reg .l))
/-- `RES 2,(HL)` (R174). -/
def execRes2MemHL (s : State) : Result := .next (s.bitReset 2 .memHL)
/-- `RES 2,A` (R174). -/
def execRes2A (s : State) : Result := .next (s.bitReset 2 (.reg .a))
/-- `RES 3,B` (R174). -/
def execRes3B (s : State) : Result := .next (s.bitReset 3 (.reg .b))
/-- `RES 3,C` (R174). -/
def execRes3C (s : State) : Result := .next (s.bitReset 3 (.reg .c))
/-- `RES 3,D` (R174). -/
def execRes3D (s : State) : Result := .next (s.bitReset 3 (.reg .d))
/-- `RES 3,E` (R174). -/
def execRes3E (s : State) : Result := .next (s.bitReset 3 (.reg .e))
/-- `RES 3,H` (R174). -/
def execRes3H (s : State) : Result := .next (s.bitReset 3 (.reg .h))
/-- `RES 3,L` (R174). -/
def execRes3L (s : State) : Result := .next (s.bitReset 3 (.reg .l))
/-- `RES 3,(HL)` (R174). -/
def execRes3MemHL (s : State) : Result := .next (s.bitReset 3 .memHL)
/-- `RES 3,A` (R174). -/
def execRes3A (s : State) : Result := .next (s.bitReset 3 (.reg .a))
/-- `RES 4,B` (R174). -/
def execRes4B (s : State) : Result := .next (s.bitReset 4 (.reg .b))
/-- `RES 4,C` (R174). -/
def execRes4C (s : State) : Result := .next (s.bitReset 4 (.reg .c))
/-- `RES 4,D` (R174). -/
def execRes4D (s : State) : Result := .next (s.bitReset 4 (.reg .d))
/-- `RES 4,E` (R174). -/
def execRes4E (s : State) : Result := .next (s.bitReset 4 (.reg .e))
/-- `RES 4,H` (R174). -/
def execRes4H (s : State) : Result := .next (s.bitReset 4 (.reg .h))
/-- `RES 4,L` (R174). -/
def execRes4L (s : State) : Result := .next (s.bitReset 4 (.reg .l))
/-- `RES 4,(HL)` (R174). -/
def execRes4MemHL (s : State) : Result := .next (s.bitReset 4 .memHL)
/-- `RES 4,A` (R174). -/
def execRes4A (s : State) : Result := .next (s.bitReset 4 (.reg .a))
/-- `RES 5,B` (R174). -/
def execRes5B (s : State) : Result := .next (s.bitReset 5 (.reg .b))
/-- `RES 5,C` (R174). -/
def execRes5C (s : State) : Result := .next (s.bitReset 5 (.reg .c))
/-- `RES 5,D` (R174). -/
def execRes5D (s : State) : Result := .next (s.bitReset 5 (.reg .d))
/-- `RES 5,E` (R174). -/
def execRes5E (s : State) : Result := .next (s.bitReset 5 (.reg .e))
/-- `RES 5,H` (R174). -/
def execRes5H (s : State) : Result := .next (s.bitReset 5 (.reg .h))
/-- `RES 5,L` (R174). -/
def execRes5L (s : State) : Result := .next (s.bitReset 5 (.reg .l))
/-- `RES 5,(HL)` (R174). -/
def execRes5MemHL (s : State) : Result := .next (s.bitReset 5 .memHL)
/-- `RES 5,A` (R174). -/
def execRes5A (s : State) : Result := .next (s.bitReset 5 (.reg .a))
/-- `RES 6,B` (R174). -/
def execRes6B (s : State) : Result := .next (s.bitReset 6 (.reg .b))
/-- `RES 6,C` (R174). -/
def execRes6C (s : State) : Result := .next (s.bitReset 6 (.reg .c))
/-- `RES 6,D` (R174). -/
def execRes6D (s : State) : Result := .next (s.bitReset 6 (.reg .d))
/-- `RES 6,E` (R174). -/
def execRes6E (s : State) : Result := .next (s.bitReset 6 (.reg .e))
/-- `RES 6,H` (R174). -/
def execRes6H (s : State) : Result := .next (s.bitReset 6 (.reg .h))
/-- `RES 6,L` (R174). -/
def execRes6L (s : State) : Result := .next (s.bitReset 6 (.reg .l))
/-- `RES 6,(HL)` (R174). -/
def execRes6MemHL (s : State) : Result := .next (s.bitReset 6 .memHL)
/-- `RES 6,A` (R174). -/
def execRes6A (s : State) : Result := .next (s.bitReset 6 (.reg .a))
/-- `RES 7,B` (R174). -/
def execRes7B (s : State) : Result := .next (s.bitReset 7 (.reg .b))
/-- `RES 7,C` (R174). -/
def execRes7C (s : State) : Result := .next (s.bitReset 7 (.reg .c))
/-- `RES 7,D` (R174). -/
def execRes7D (s : State) : Result := .next (s.bitReset 7 (.reg .d))
/-- `RES 7,E` (R174). -/
def execRes7E (s : State) : Result := .next (s.bitReset 7 (.reg .e))
/-- `RES 7,H` (R174). -/
def execRes7H (s : State) : Result := .next (s.bitReset 7 (.reg .h))
/-- `RES 7,L` (R174). -/
def execRes7L (s : State) : Result := .next (s.bitReset 7 (.reg .l))
/-- `RES 7,(HL)` (R174). -/
def execRes7MemHL (s : State) : Result := .next (s.bitReset 7 .memHL)
/-- `RES 7,A` (R174). -/
def execRes7A (s : State) : Result := .next (s.bitReset 7 (.reg .a))
/-- `SET 0,B` (R175). -/
def execSet0B (s : State) : Result := .next (s.bitSet 0 (.reg .b))
/-- `SET 0,C` (R175). -/
def execSet0C (s : State) : Result := .next (s.bitSet 0 (.reg .c))
/-- `SET 0,D` (R175). -/
def execSet0D (s : State) : Result := .next (s.bitSet 0 (.reg .d))
/-- `SET 0,E` (R175). -/
def execSet0E (s : State) : Result := .next (s.bitSet 0 (.reg .e))
/-- `SET 0,H` (R175). -/
def execSet0H (s : State) : Result := .next (s.bitSet 0 (.reg .h))
/-- `SET 0,L` (R175). -/
def execSet0L (s : State) : Result := .next (s.bitSet 0 (.reg .l))
/-- `SET 0,(HL)` (R175). -/
def execSet0MemHL (s : State) : Result := .next (s.bitSet 0 .memHL)
/-- `SET 0,A` (R175). -/
def execSet0A (s : State) : Result := .next (s.bitSet 0 (.reg .a))
/-- `SET 1,B` (R175). -/
def execSet1B (s : State) : Result := .next (s.bitSet 1 (.reg .b))
/-- `SET 1,C` (R175). -/
def execSet1C (s : State) : Result := .next (s.bitSet 1 (.reg .c))
/-- `SET 1,D` (R175). -/
def execSet1D (s : State) : Result := .next (s.bitSet 1 (.reg .d))
/-- `SET 1,E` (R175). -/
def execSet1E (s : State) : Result := .next (s.bitSet 1 (.reg .e))
/-- `SET 1,H` (R175). -/
def execSet1H (s : State) : Result := .next (s.bitSet 1 (.reg .h))
/-- `SET 1,L` (R175). -/
def execSet1L (s : State) : Result := .next (s.bitSet 1 (.reg .l))
/-- `SET 1,(HL)` (R175). -/
def execSet1MemHL (s : State) : Result := .next (s.bitSet 1 .memHL)
/-- `SET 1,A` (R175). -/
def execSet1A (s : State) : Result := .next (s.bitSet 1 (.reg .a))
/-- `SET 2,B` (R175). -/
def execSet2B (s : State) : Result := .next (s.bitSet 2 (.reg .b))
/-- `SET 2,C` (R175). -/
def execSet2C (s : State) : Result := .next (s.bitSet 2 (.reg .c))
/-- `SET 2,D` (R175). -/
def execSet2D (s : State) : Result := .next (s.bitSet 2 (.reg .d))
/-- `SET 2,E` (R175). -/
def execSet2E (s : State) : Result := .next (s.bitSet 2 (.reg .e))
/-- `SET 2,H` (R175). -/
def execSet2H (s : State) : Result := .next (s.bitSet 2 (.reg .h))
/-- `SET 2,L` (R175). -/
def execSet2L (s : State) : Result := .next (s.bitSet 2 (.reg .l))
/-- `SET 2,(HL)` (R175). -/
def execSet2MemHL (s : State) : Result := .next (s.bitSet 2 .memHL)
/-- `SET 2,A` (R175). -/
def execSet2A (s : State) : Result := .next (s.bitSet 2 (.reg .a))
/-- `SET 3,B` (R175). -/
def execSet3B (s : State) : Result := .next (s.bitSet 3 (.reg .b))
/-- `SET 3,C` (R175). -/
def execSet3C (s : State) : Result := .next (s.bitSet 3 (.reg .c))
/-- `SET 3,D` (R175). -/
def execSet3D (s : State) : Result := .next (s.bitSet 3 (.reg .d))
/-- `SET 3,E` (R175). -/
def execSet3E (s : State) : Result := .next (s.bitSet 3 (.reg .e))
/-- `SET 3,H` (R175). -/
def execSet3H (s : State) : Result := .next (s.bitSet 3 (.reg .h))
/-- `SET 3,L` (R175). -/
def execSet3L (s : State) : Result := .next (s.bitSet 3 (.reg .l))
/-- `SET 3,(HL)` (R175). -/
def execSet3MemHL (s : State) : Result := .next (s.bitSet 3 .memHL)
/-- `SET 3,A` (R175). -/
def execSet3A (s : State) : Result := .next (s.bitSet 3 (.reg .a))
/-- `SET 4,B` (R175). -/
def execSet4B (s : State) : Result := .next (s.bitSet 4 (.reg .b))
/-- `SET 4,C` (R175). -/
def execSet4C (s : State) : Result := .next (s.bitSet 4 (.reg .c))
/-- `SET 4,D` (R175). -/
def execSet4D (s : State) : Result := .next (s.bitSet 4 (.reg .d))
/-- `SET 4,E` (R175). -/
def execSet4E (s : State) : Result := .next (s.bitSet 4 (.reg .e))
/-- `SET 4,H` (R175). -/
def execSet4H (s : State) : Result := .next (s.bitSet 4 (.reg .h))
/-- `SET 4,L` (R175). -/
def execSet4L (s : State) : Result := .next (s.bitSet 4 (.reg .l))
/-- `SET 4,(HL)` (R175). -/
def execSet4MemHL (s : State) : Result := .next (s.bitSet 4 .memHL)
/-- `SET 4,A` (R175). -/
def execSet4A (s : State) : Result := .next (s.bitSet 4 (.reg .a))
/-- `SET 5,B` (R175). -/
def execSet5B (s : State) : Result := .next (s.bitSet 5 (.reg .b))
/-- `SET 5,C` (R175). -/
def execSet5C (s : State) : Result := .next (s.bitSet 5 (.reg .c))
/-- `SET 5,D` (R175). -/
def execSet5D (s : State) : Result := .next (s.bitSet 5 (.reg .d))
/-- `SET 5,E` (R175). -/
def execSet5E (s : State) : Result := .next (s.bitSet 5 (.reg .e))
/-- `SET 5,H` (R175). -/
def execSet5H (s : State) : Result := .next (s.bitSet 5 (.reg .h))
/-- `SET 5,L` (R175). -/
def execSet5L (s : State) : Result := .next (s.bitSet 5 (.reg .l))
/-- `SET 5,(HL)` (R175). -/
def execSet5MemHL (s : State) : Result := .next (s.bitSet 5 .memHL)
/-- `SET 5,A` (R175). -/
def execSet5A (s : State) : Result := .next (s.bitSet 5 (.reg .a))
/-- `SET 6,B` (R175). -/
def execSet6B (s : State) : Result := .next (s.bitSet 6 (.reg .b))
/-- `SET 6,C` (R175). -/
def execSet6C (s : State) : Result := .next (s.bitSet 6 (.reg .c))
/-- `SET 6,D` (R175). -/
def execSet6D (s : State) : Result := .next (s.bitSet 6 (.reg .d))
/-- `SET 6,E` (R175). -/
def execSet6E (s : State) : Result := .next (s.bitSet 6 (.reg .e))
/-- `SET 6,H` (R175). -/
def execSet6H (s : State) : Result := .next (s.bitSet 6 (.reg .h))
/-- `SET 6,L` (R175). -/
def execSet6L (s : State) : Result := .next (s.bitSet 6 (.reg .l))
/-- `SET 6,(HL)` (R175). -/
def execSet6MemHL (s : State) : Result := .next (s.bitSet 6 .memHL)
/-- `SET 6,A` (R175). -/
def execSet6A (s : State) : Result := .next (s.bitSet 6 (.reg .a))
/-- `SET 7,B` (R175). -/
def execSet7B (s : State) : Result := .next (s.bitSet 7 (.reg .b))
/-- `SET 7,C` (R175). -/
def execSet7C (s : State) : Result := .next (s.bitSet 7 (.reg .c))
/-- `SET 7,D` (R175). -/
def execSet7D (s : State) : Result := .next (s.bitSet 7 (.reg .d))
/-- `SET 7,E` (R175). -/
def execSet7E (s : State) : Result := .next (s.bitSet 7 (.reg .e))
/-- `SET 7,H` (R175). -/
def execSet7H (s : State) : Result := .next (s.bitSet 7 (.reg .h))
/-- `SET 7,L` (R175). -/
def execSet7L (s : State) : Result := .next (s.bitSet 7 (.reg .l))
/-- `SET 7,(HL)` (R175). -/
def execSet7MemHL (s : State) : Result := .next (s.bitSet 7 .memHL)
/-- `SET 7,A` (R175). -/
def execSet7A (s : State) : Result := .next (s.bitSet 7 (.reg .a))

end Sys2Proof.Machine
end

