-- ==== Sys2Proof/Machine/Timer.lean ====
section
/-! DEFINITION. The timer subsystem (`60_exceptions.md` R255 to R259): one tick of the divider and of the counter. -/

namespace Sys2Proof.Machine

/-- DIV counts when the low 8 bits of `total` reach zero (R256). -/
def State.tickDivider (s : State) (p : Params) : State :=
  if s.total % 256 = 0 then s.modifyByte p.divAddr (· + 1) else s

/-- The rate TAC bits 1:0 select, in cycle units (R257). -/
def timerPeriod (tac : Byte) : Nat :=
  match (tac.extractLsb' 0 2).toFin with
  | (0 : Fin 4) => 1024
  | (1 : Fin 4) => 16
  | (2 : Fin 4) => 64
  | (3 : Fin 4) => 256

/-- TIMA counts in this tick: TAC bit 2 enables it, and the low bits of `total` that the rate masks are zero (R257). -/
def State.counterTicks (s : State) (p : Params) : Bool :=
  (s.readByte p.tacAddr).getLsbD 2 && decide (s.total % timerPeriod (s.readByte p.tacAddr) = 0)

/-- `Overflow()`: TIMA reloads from TMA and the timer interrupt, bit 2 of IF, is requested (R258). -/
def State.timerOverflow (s : State) (p : Params) : State :=
  (s.writeByte p.timaAddr (s.readByte p.tmaAddr)).modifyByte p.ifAddr (· ||| 0x04)

/-- One count of TIMA, which overflows from 0xFF (R257). -/
def State.countTima (s : State) (p : Params) : State :=
  if s.readByte p.timaAddr = 0xFF then s.timerOverflow p else s.modifyByte p.timaAddr (· + 1)

/-- The counter's part of a tick (R257). -/
def State.tickCounter (s : State) (p : Params) : State := if s.counterTicks p then s.countTima p else s

/-- `TimerTick()`: `total` is counted first, then the divider and the counter read the new value (R255). -/
def State.timerTick (s : State) (p : Params) : State :=
  ({ s with total := s.total + 1 }.tickDivider p).tickCounter p

end Sys2Proof.Machine
end

