-- ==== Sys2Proof/Machine/Engine.lean ====
section
/-! DEFINITION. The engine's one transition `Step` (`40_execution_cycle.md` R100 to R114), for every value of the parameters of `00_scope.md` R8: the fetch, the pending-IME transition, the mid-instruction step and the fetch step. -/

namespace Sys2Proof.Machine

/-! ## Fetch -/

/-- Where the byte after the opcode is fetched from: under the HALT bug the opcode fetch leaves PC unchanged (R103). -/
def State.operandAddr (s : State) : Word := if s.haltBug then s.pc else s.pc + 1

/-- The instruction in the stream at PC: the opcode byte and the two bytes an operand can take (R103 to R106). -/
def State.fetchedInstr (s : State) : Instr :=
  decodeBytes (s.readByte s.pc) (s.readByte s.operandAddr) (s.readByte (s.operandAddr + 1))

/-- The state after `FetchOpcode()`: `opcode` and its address latched, the HALT bug consumed, PC past the opcode byte
unless the HALT bug held it (R31, R103). -/
def State.afterOpcodeFetch (s : State) : State :=
  { s with opcode := s.readByte s.pc, opcodeAddr := s.pc, haltBug := false, pc := s.operandAddr }

/-- The state after all bytes of the instruction have been fetched: as after the opcode fetch, PC past the last byte
(R26, R104). -/
def State.afterFetch (s : State) (stopLength : StopLength) : State :=
  { s.afterOpcodeFetch with
    pc := s.operandAddr + BitVec.ofNat 16 (opcodeLength stopLength (s.readByte s.pc) - 1) }

/-! ## Execute -/

/-- `Execute(op)` under given parameters. HALT reads IE_ADDR and IF_ADDR and the prefix handler adds CYCLE_COST's CB
cost; every other instruction reads no parameter and is `exec`'s (R102, R106; `47_misc_system.md` R221). -/
def execWith (p : Params) (i : Instr) (s : State) : Result :=
  match i with
  | .halt => haltWith p s
  | .prefixCb => prefixCbWith p s
  | i => exec i s

/-! ## The phases around an instruction -/

/-- The kind of step `ApplyIME` is called in (R108). -/
inductive StepKind where
  | mid
  | fetch
deriving DecidableEq, Repr

/-- `ApplyIME(p0, kind)`: the pending enable becomes IME one step after it was requested (R108). -/
def State.applyIme (s : State) (mode : EiDelayMode) (p0 : Bool) (kind : StepKind) : State :=
  if mode = .afterNextInstruction ∧ kind = .mid then s
  else if p0 && s.imePending then { s with ime := true, imePending := false }
  else s

/-- `remaining <- remaining + Cost(op) + extra - 1`; the meaning has already added `extra` (R107, log entry 12). -/
def State.chargeCost (s : State) (p : Params) (i : Instr) : State :=
  { s with remaining := s.remaining + costOf p i - 1 }

/-- What a fetch step does after the instruction's effects: charge the cost, apply the pending enable, check for an
interrupt, tick the timer (R102 branch 4, R111). -/
def State.finishFetch (s : State) (p : Params) (p0 : Bool) (i : Instr) : State :=
  (((s.chargeCost p i).applyIme p.eiDelay p0 .fetch).interruptCheck p).timerTick p

/-- Branch 4 of `Step` (R102): fetch, decode, execute, then the phases above; a fault pre-empts everything after it. A
byte of ILLEGAL_SET faults before any operand is fetched (R109). -/
def fetchStep (p : Params) (s : State) : Result :=
  if s.readByte s.pc ∈ p.illegalSet then raiseUnimplemented (s.readByte s.pc) s.afterOpcodeFetch
  else match execWith p s.fetchedInstr (s.afterFetch p.stopLength) with
  | .next t => .next (t.finishFetch p s.imePending s.fetchedInstr)
  | .fault r => .fault r
  | .refused r => .refused r

/-- Branch 3 of `Step` (R102): one unit off the counter, then tick, transition and check in the order that
MID_STEP_ORDER gives (R111). -/
def State.midStep (s : State) (p : Params) : State :=
  let counted := { s with remaining := s.remaining - 1 }
  match p.midOrder with
  | .timerFirst =>
    ((counted.timerTick p).applyIme p.eiDelay s.imePending .mid).interruptCheck p
  | .timerLast =>
    ((counted.applyIme p.eiDelay s.imePending .mid).interruptCheck p).timerTick p

/-- Branches 3 and 4: a core that is neither Stopped nor Halted. -/
def runningStep (p : Params) (s : State) : Result :=
  if 0 < s.remaining then .next (s.midStep p) else fetchStep p s

/-- `Step()` under the given parameters (R102). -/
def stepWith (p : Params) (s : State) : Result :=
  if s.stopped then .next (s.timerTick p)
  else if s.halted then
    if s.pending p ≠ 0 then runningStep p { s with halted := false } else .next (s.timerTick p)
  else runningStep p s

end Sys2Proof.Machine
end

