-- ==== Sys2Proof/Machine/Step.lean ====
section
/-! DEFINITION. The machine's step, at the spec's default parameters, and the placing of one instruction where the step fetches. -/

namespace Sys2Proof.Machine

/-- One call of `Step` (`40_execution_cycle.md` R102) with the parameters of `00_scope.md` R8 at their defaults. -/
def step (s : State) : Host.Outcome State Fault Refusal := stepWith engineParams s

/-- Store bytes at consecutive addresses, wrapping modulo 2^16. -/
def State.placeBytes (s : State) (addr : Word) : List Byte → State
  | [] => s
  | v :: rest => (s.writeByte addr v).placeBytes (addr + 1) rest

/-- `s` with a table row's instruction stored at PC, and with the core ready to fetch it: not Stopped, not Halted, no
cycles remaining, no HALT bug. The bytes above the row's bits are zero, up to the longest instruction (log entry 14). -/
def State.withFetchWord (s : State) (nbits w : Nat) : State :=
  { s with stopped := false, halted := false, remaining := 0, haltBug := false }.placeBytes s.pc
    ((tableBytes nbits w ++ [0, 0]).take 3)

end Sys2Proof.Machine
end

