-- ==== Sys2Proof/Machine/HostActions.lean ====
section
/-! DEFINITION. Power-on, and what the host can do between two steps (`70_reset_and_hazards.md` R270; `60_exceptions.md` R265). -/

namespace Sys2Proof.Machine

/-- The host's actions besides `Step` and the read-only `ReadState` (R265). -/
inductive HostAction where
  | resumeFromStop
  | reset
  | writeMem (addr : Word) (v : Byte)
deriving DecidableEq, Repr

/-- `ResumeFromStop()`: "`stopped <- 0`; nothing else" (R265). -/
def State.resumeFromStop (s : State) : State := { s with stopped := false }

/-- Power-on under given parameters: RESET_REGS in the registers, MEM0 in memory (`70_reset_and_hazards.md` R270). -/
def State.launch (p : Params) : State := State.powerOn p.resetRegs (Memory.ofContents p.mem0)

/-- `Reset()`: every register and execution-state field to its reset value, memory unchanged (R270). -/
def State.hostReset (s : State) (p : Params) : State := State.powerOn p.resetRegs s.mem

/-- Perform a host action. -/
def State.act (s : State) (p : Params) : HostAction → State
  | .resumeFromStop => s.resumeFromStop
  | .reset => s.hostReset p
  | .writeMem addr v => s.writeByte addr v

end Sys2Proof.Machine
end

