-- ==== Sys2Proof/Safety.lean ====
section
/-! DEFINITION. What counts as a safe run, and the invariants that claims are stated with. -/

namespace Sys2Proof.Machine

/-- The step goes on: it answers a next state. -/
def State.stepsOn (p : Params) (s : State) : Prop := ∃ t, stepWith p s = .next t

/-- The byte has no operation: it is in ILLEGAL_SET, or it is one of the eleven the spec gives no operation, whatever
the set holds (`60_exceptions.md` R240; log entry 5). -/
def illegalByte (p : Params) (op : Byte) : Prop := op ∈ p.illegalSet ∨ op ∈ illegalSet

/-- The four states of the source's state machine (`40_execution_cycle.md` R101). -/
inductive Phase where
  | stoppedPhase
  | haltedPhase
  | midInstruction (n : Nat)
  | readyToFetch
deriving DecidableEq, Repr

/-- The phase read from the state (R101). -/
def State.phase (s : State) : Phase :=
  if s.stopped then .stoppedPhase
  else if s.halted then .haltedPhase
  else if 0 < s.remaining then .midInstruction s.remaining
  else .readyToFetch

/-- Memory is in its canonical form. -/
def State.memoryCanonical (s : State) : Prop := s.mem.wf = true

/-- Bits 3:0 of F hold zero (`10_state.md` R23). -/
def State.flagNibbleZero (s : State) : Prop := s.f &&& 0x0F = 0

/-- The HALT bug is never pending while the core is Halted (`40_execution_cycle.md` R114), and the core is never Halted
and Stopped at once. -/
def State.phasesExclusive (s : State) : Prop :=
  ¬(s.halted = true ∧ s.haltBug = true) ∧ ¬(s.halted = true ∧ s.stopped = true)

/-- The fixed extra of a taken condition (`46_control.md` R200); 0 for an instruction without one. -/
def takenExtra : Instr → Nat
  | .jpNZN16 _ | .jpZN16 _ | .jpNCN16 _ | .jpCN16 _ | .jrNZE8 _ | .jrZE8 _ | .jrNCE8 _ | .jrCE8 _ => jumpTakenExtra
  | .callNZN16 _ | .callZN16 _ | .callNCN16 _ | .callCN16 _ | .retNZ | .retZ | .retNC | .retC => callTakenExtra
  | _ => 0

/-- Every instruction's cost is positive, as `40_execution_cycle.md` R107 says, and at most `n`, the extra of a taken
condition included. -/
def costsWithin (p : Params) (n : Nat) : Prop :=
  ∀ i : Instr, i.wellFormed = true → 1 ≤ costOf p i ∧ costOf p i + takenExtra i ≤ n

/-- The cycles in flight, counting an entry that IME or the pending enable could still add, stay within one
instruction of at most `n` cycles and two interrupt entries, less the cycle its fetch step took. -/
def State.cyclesBounded (n : Nat) (s : State) : Prop :=
  s.remaining + interruptLatency * s.ime.toNat + interruptLatency * s.imePending.toNat ≤ n + 39

/-- The machine's invariant, where no instruction costs more than `n`. -/
structure State.Inv (n : Nat) (s : State) : Prop where
  memory : s.memoryCanonical
  flags : s.flagNibbleZero
  phases : s.phasesExclusive
  cycles : s.cyclesBounded n

/-! ## Frames: what is the same in `t` as in `s` -/

/-- Every 8-bit register outside the list is unchanged. -/
def regsSame (except : List Reg8) (s t : State) : Prop := ∀ r, r ∉ except → t.getReg r = s.getReg r

/-- Every byte of memory outside the listed addresses reads as before. -/
def memSame (except : List Word) (s t : State) : Prop :=
  ∀ x, x ∉ except → t.readByte x = s.readByte x

/-- F reads as before: all four flags, and zeros below them. -/
def flagsSame (s t : State) : Prop := t.readF = s.readF

/-- The four flags hold these values, and bits 3:0 of F hold zero. -/
def flagsAre (t : State) (z n h c : Bool) : Prop :=
  t.flagZ = z ∧ t.flagN = n ∧ t.flagH = h ∧ t.flagC = c ∧ t.f &&& 0x0F = 0

/-- The execution state, apart from the remaining-cycles counter, is unchanged. -/
def engineSame (s t : State) : Prop :=
  t.opcode = s.opcode ∧ t.opcodeAddr = s.opcodeAddr ∧ t.total = s.total ∧ t.stopped = s.stopped ∧
    t.halted = s.halted ∧ t.haltBug = s.haltBug ∧ t.ime = s.ime ∧ t.imePending = s.imePending

/-- The execution state, the remaining-cycles counter and PC are unchanged. -/
def controlSame (s t : State) : Prop := engineSame s t ∧ t.remaining = s.remaining ∧ t.pc = s.pc

/-- The destination operand received `v`, and no other register and no other byte of memory changed. -/
def storesTo (d : Operand8) (v : Byte) (s t : State) : Prop :=
  match d with
  | .reg r => t.getReg r = v ∧ regsSame [r] s t ∧ memSame [] s t
  | .memHL => t.readByte s.hl = v ∧ regsSame [] s t ∧ memSame [s.hl] s t

/-- `v` was pushed: SP two lower, the high byte at SP-1, the low byte at SP-2, no other byte changed
(`20_memory.md` R57). -/
def pushed (v : Word) (s t : State) : Prop :=
  t.sp = s.sp - 2 ∧ t.readByte (s.sp - 1) = highByte v ∧ t.readByte (s.sp - 2) = lowByte v ∧
    memSame [s.sp - 1, s.sp - 2] s t

/-- The 16-bit value on top of the stack: the low byte at SP, the high byte at SP+1 (R58). -/
def topOfStack (s : State) : Word := joinBytes (s.readByte (s.sp + 1)) (s.readByte s.sp)

/-- The registers a pair is a view of (`10_state.md` R20, R21). -/
def pairRegs : Pair → List Reg8
  | .bc => [.b, .c]
  | .de => [.d, .e]
  | .hl => [.h, .l]
  | .sp => []

/-! ## The rows of the opcode table -/

/-- The instruction's bytes in fetch order and its cost at the default CYCLE_COST (`30_encoding.md` R70,
`70_reset_and_hazards.md` R281). -/
def hasRow (i : Instr) (bytes : List Byte) (cost : Nat) : Prop := encode i = bytes ∧ costOf engineParams i = cost

/-- The field value of an 8-bit operand (`10_state.md` R27). -/
def operandCode : Operand8 → Nat
  | .reg .b => 0 | .reg .c => 1 | .reg .d => 2 | .reg .e => 3
  | .reg .h => 4 | .reg .l => 5 | .memHL => 6 | .reg .a => 7

/-- The field value of `rp` (R28). -/
def pairCode : Pair → Nat
  | .bc => 0 | .de => 1 | .hl => 2 | .sp => 3

/-- The field value of `rp2` (R29). -/
def stackPairCode : StackPair → Nat
  | .bc => 0 | .de => 1 | .hl => 2 | .af => 3

/-- The field value of a condition (R30). -/
def condCode : Cond → Nat
  | .nz => 0 | .z => 1 | .nc => 2 | .c => 3

/-- The field value of an accumulator operation (`30_encoding.md` R71). -/
def aluCode : AluOp → Nat
  | .add => 0 | .adc => 1 | .sub => 2 | .sbc => 3 | .and => 4 | .xor => 5 | .or => 6 | .cp => 7

/-- The row of a rotate or shift in its CB block (R80). -/
def rotCode : RotOp → Nat
  | .rlc => 0 | .rrc => 1 | .rl => 2 | .rr => 3 | .sla => 4 | .sra => 5 | .swap => 6 | .srl => 7

/-- What memory-at-HL costs beside a register: 4 more cycle units (`10_state.md` R27). -/
def operandSurcharge : Operand8 → Nat
  | .reg _ => 0
  | .memHL => 4

/-- `i` is the accumulator operation `o` in one of its three forms, reading the source byte `src`; `bytes` and `cost`
are that form's row (`42_alu8.md` R140). -/
def isAluForm (o : AluOp) (s : State) (i : Instr) (src : Byte) : Prop :=
  (∃ x, i = aluInstr o x ∧ src = s.readOperand x ∧
    hasRow i [BitVec.ofNat 8 (0x80 + 8 * aluCode o + operandCode x)] (4 + operandSurcharge x)) ∨
  (i = aluImmInstr o src ∧ hasRow i [BitVec.ofNat 8 (0xC6 + 8 * aluCode o), src] 8)

/-! ## Shapes that several instructions share -/

/-- `i` runs to a state where A holds the byte at `x` and nothing else changed. -/
def loadsA (i : Instr) (x : Word) (s : State) : Prop :=
  ∃ t, exec i s = .next t ∧ t.a = s.readByte x ∧ regsSame [.a] s t ∧ memSame [] s t ∧
    flagsSame s t ∧ t.sp = s.sp ∧ controlSame s t

/-- `i` runs to a state where the byte at `x` holds A and nothing else changed. -/
def storesA (i : Instr) (x : Word) (s : State) : Prop :=
  ∃ t, exec i s = .next t ∧ t.readByte x = s.a ∧ regsSame [] s t ∧ memSame [x] s t ∧
    flagsSame s t ∧ t.sp = s.sp ∧ controlSame s t

/-- Nothing but PC and the remaining-cycles counter changed; PC is `target` and `extra` cycles were added. -/
def jumpsTo (target : Word) (extra : Nat) (s t : State) : Prop :=
  t.pc = target ∧ t.remaining = s.remaining + extra ∧ regsSame [] s t ∧ memSame [] s t ∧
    flagsSame s t ∧ t.sp = s.sp ∧ engineSame s t

/-- PC was pushed and is now `target`, `extra` cycles were added, and nothing else changed. -/
def callsTo (target : Word) (extra : Nat) (s t : State) : Prop :=
  pushed s.pc s t ∧ t.pc = target ∧ t.remaining = s.remaining + extra ∧ regsSame [] s t ∧
    flagsSame s t ∧ engineSame s t

/-- PC was popped, `extra` cycles were added, and no register, byte or flag changed. The execution state is left to
the statement, since RETI sets IME. -/
def returnsFrom (extra : Nat) (s t : State) : Prop :=
  t.pc = topOfStack s ∧ t.sp = s.sp + 2 ∧ t.remaining = s.remaining + extra ∧ regsSame [] s t ∧
    memSame [] s t ∧ flagsSame s t

/-- What HALT answers (`47_misc_system.md` R221): with IME 0 and an interrupt pending it sets `haltBug` only, in every
other state `halted` only. -/
def haltsOrArmsBug (p : Params) (s : State) (r : Result) : Prop :=
  ∃ t, r = .next t ∧
    (s.ime = false ∧ s.readByte p.ieAddr &&& s.readByte p.ifAddr &&& 0x1F ≠ 0 →
      t.haltBug = true ∧ { t with haltBug := s.haltBug } = s) ∧
    (s.ime = true ∨ s.readByte p.ieAddr &&& s.readByte p.ifAddr &&& 0x1F = 0 →
      t.halted = true ∧ { t with halted := s.halted } = s)

/-- The bit that leaves a rotate, shift or SWAP for the Carry flag, and each bit of its result (`43_rotate_shift_bit.md`
R165 to R172). -/
def rotatesTo (o : RotOp) (v : Byte) (carryIn : Bool) (res : Byte) (carryOut : Bool) : Prop :=
  match o with
  | .rlc => carryOut = v.getLsbD 7 ∧
      ∀ k < 8, res.getLsbD k = if k = 0 then v.getLsbD 7 else v.getLsbD (k - 1)
  | .rrc => carryOut = v.getLsbD 0 ∧
      ∀ k < 8, res.getLsbD k = if k = 7 then v.getLsbD 0 else v.getLsbD (k + 1)
  | .rl => carryOut = v.getLsbD 7 ∧
      ∀ k < 8, res.getLsbD k = if k = 0 then carryIn else v.getLsbD (k - 1)
  | .rr => carryOut = v.getLsbD 0 ∧
      ∀ k < 8, res.getLsbD k = if k = 7 then carryIn else v.getLsbD (k + 1)
  | .sla => carryOut = v.getLsbD 7 ∧
      ∀ k < 8, res.getLsbD k = if k = 0 then false else v.getLsbD (k - 1)
  | .sra => carryOut = v.getLsbD 0 ∧
      ∀ k < 8, res.getLsbD k = if k = 7 then v.getLsbD 7 else v.getLsbD (k + 1)
  | .swap => carryOut = false ∧ ∀ k < 8, res.getLsbD k = v.getLsbD ((k + 4) % 8)
  | .srl => carryOut = v.getLsbD 0 ∧
      ∀ k < 8, res.getLsbD k = if k = 7 then false else v.getLsbD (k + 1)

/-- The core is neither Stopped nor Halted and has no cycles in flight: its step fetches (R101). -/
def State.ready (s : State) : Prop := s.stopped = false ∧ s.halted = false ∧ s.remaining = 0

/-- The next step is a fetch step: the core is ready, or a wake makes it so (R102). -/
def State.fetches (s : State) (p : Params) : Prop :=
  s.stopped = false ∧ (s.halted = true → s.pending p ≠ 0) ∧ s.remaining = 0

/-- The timer registers and IF stand at five different addresses, as they do by default. -/
def timerAddrsDistinct (p : Params) : Prop :=
  [p.divAddr, p.timaAddr, p.tmaAddr, p.tacAddr, p.ifAddr].Nodup

/-! ## Runs and results -/

/-- `k` steps under given parameters, stopping at the first that does not go on. -/
def runWith (p : Params) : Nat → State → Result
  | 0, s => .next s
  | k + 1, s =>
    match stepWith p s with
    | .next t => runWith p k t
    | .fault r => .fault r
    | .refused r => .refused r

/-- Change the state a result carries, also the one a fault records. -/
def mapState (g : State → State) : Result → Result
  | .next t => .next (g t)
  | .fault (.unimplementedOpcode op x t) => .fault (.unimplementedOpcode op x (g t))
  | .refused r => .refused r

/-- The packed-BCD byte of a number below 100. -/
def bcd (n : Nat) : Byte := BitVec.ofNat 8 (n / 10 * 16 + n % 10)

end Sys2Proof.Machine
end

