-- ==== Sys2Proof/Certificates/Slice0/Obligations.lean ====
section
/-! DEFINITION. The statements for the provers, each a property of the machine the spec describes. The vocabulary of frames and rows is that of Safety.lean. -/

open Sys2Proof Sys2Proof.Machine

/-- LD r,r', LD r,(HL) and LD (HL),r copy one byte and change nothing else. Rules R120, R121, R122. -/
def Obligations.LoadOperandMovesOneByte : Prop :=
  ∀ (d src : Operand8) (s : State), ¬(d = .memHL ∧ src = .memHL) →
    hasRow (loadInstr d src) [BitVec.ofNat 8 (0x40 + 8 * operandCode d + operandCode src)]
      (4 + operandSurcharge d + operandSurcharge src) ∧
    ∃ t, exec (loadInstr d src) s = .next t ∧ storesTo d (s.readOperand src) s t ∧
      flagsSame s t ∧ t.sp = s.sp ∧ controlSame s t

/-- LD r,n8 and LD (HL),n8 store the immediate and change nothing else. Rules R123, R124. -/
def Obligations.LoadImmediateStoresTheByte : Prop :=
  ∀ (d : Operand8) (n : Byte) (s : State),
    hasRow (loadImmInstr d n) [BitVec.ofNat 8 (0x06 + 8 * operandCode d), n] (8 + operandSurcharge d) ∧
    ∃ t, exec (loadImmInstr d n) s = .next t ∧ storesTo d n s t ∧
      flagsSame s t ∧ t.sp = s.sp ∧ controlSame s t

/-- LD A,(BC), LD A,(DE), LD A,(n16), LDH A,(n8) and LD A,(C) load A from their address and change nothing else. Rules
R125, R127, R129, R131. -/
def Obligations.AccumulatorLoadsReadTheirAddress : Prop :=
  ∀ (s : State) (n : Word) (m : Byte),
    (hasRow .ldAMemBC [0x0A] 8 ∧ loadsA .ldAMemBC (joinBytes s.b s.c) s) ∧
    (hasRow .ldAMemDE [0x1A] 8 ∧ loadsA .ldAMemDE (joinBytes s.d s.e) s) ∧
    (hasRow (.ldAMemN16 n) [0xFA, lowByte n, highByte n] 16 ∧ loadsA (.ldAMemN16 n) n s) ∧
    (hasRow (.ldhAMemN8 m) [0xF0, m] 12 ∧
      loadsA (.ldhAMemN8 m) (BitVec.ofNat 16 (0xFF00 + m.toNat)) s) ∧
    (hasRow .ldAMemC [0xF2] 8 ∧ loadsA .ldAMemC (BitVec.ofNat 16 (0xFF00 + s.c.toNat)) s)

/-- LD (BC),A, LD (DE),A, LD (n16),A, LDH (n8),A and LD (C),A store A at their address and change nothing else. Rules
R126, R128, R130, R132. -/
def Obligations.AccumulatorStoresWriteTheirAddress : Prop :=
  ∀ (s : State) (n : Word) (m : Byte),
    (hasRow .ldMemBCA [0x02] 8 ∧ storesA .ldMemBCA (joinBytes s.b s.c) s) ∧
    (hasRow .ldMemDEA [0x12] 8 ∧ storesA .ldMemDEA (joinBytes s.d s.e) s) ∧
    (hasRow (.ldMemN16A n) [0xEA, lowByte n, highByte n] 16 ∧ storesA (.ldMemN16A n) n s) ∧
    (hasRow (.ldhMemN8A m) [0xE0, m] 12 ∧
      storesA (.ldhMemN8A m) (BitVec.ofNat 16 (0xFF00 + m.toNat)) s) ∧
    (hasRow .ldMemCA [0xE2] 8 ∧ storesA .ldMemCA (BitVec.ofNat 16 (0xFF00 + s.c.toNat)) s)

/-- LD (HL+),A, LD A,(HL+), LD (HL-),A and LD A,(HL-) transfer one byte at HL, then step HL by one. Rules R133, R134,
R135, R136. -/
def Obligations.SteppingLoadsMoveHLByOne : Prop :=
  ∀ s : State,
    (hasRow .ldMemHLIncA [0x22] 8 ∧ ∃ t, exec .ldMemHLIncA s = .next t ∧ t.readByte s.hl = s.a ∧
      t.hl.toNat = (s.hl.toNat + 1) % 65536 ∧ regsSame [.h, .l] s t ∧ memSame [s.hl] s t ∧
      flagsSame s t ∧ t.sp = s.sp ∧ controlSame s t) ∧
    (hasRow .ldAMemHLInc [0x2A] 8 ∧ ∃ t, exec .ldAMemHLInc s = .next t ∧ t.a = s.readByte s.hl ∧
      t.hl.toNat = (s.hl.toNat + 1) % 65536 ∧ regsSame [.a, .h, .l] s t ∧ memSame [] s t ∧
      flagsSame s t ∧ t.sp = s.sp ∧ controlSame s t) ∧
    (hasRow .ldMemHLDecA [0x32] 8 ∧ ∃ t, exec .ldMemHLDecA s = .next t ∧ t.readByte s.hl = s.a ∧
      t.hl.toNat = (s.hl.toNat + 65535) % 65536 ∧ regsSame [.h, .l] s t ∧ memSame [s.hl] s t ∧
      flagsSame s t ∧ t.sp = s.sp ∧ controlSame s t) ∧
    (hasRow .ldAMemHLDec [0x3A] 8 ∧ ∃ t, exec .ldAMemHLDec s = .next t ∧ t.a = s.readByte s.hl ∧
      t.hl.toNat = (s.hl.toNat + 65535) % 65536 ∧ regsSame [.a, .h, .l] s t ∧ memSame [] s t ∧
      flagsSame s t ∧ t.sp = s.sp ∧ controlSame s t)

/-- The eight accumulator operations have a register, a memory-at-HL and an immediate form, with their encodings and
costs. Rule R140. -/
def Obligations.AccumulatorOperationsHaveThreeSourceForms : Prop :=
  ∀ (o : AluOp) (x : Operand8) (n : Byte) (s : State),
    isAluForm o s (aluInstr o x) (s.readOperand x) ∧ isAluForm o s (aluImmInstr o n) n ∧
    (s.readOperand x = n → exec (aluInstr o x) s = exec (aluImmInstr o n) s) ∧
    ∃ t, exec (aluInstr o x) s = .next t

/-- ADD and ADC: the sum, its four flags, and nothing else, in all three source forms. Rules R141, R143, R144. -/
def Obligations.AddAndAdcComputeSumAndFlags : Prop :=
  ∀ (o : AluOp) (i : Instr) (src : Byte) (s : State), o = .add ∨ o = .adc → isAluForm o s i src →
    let cin := if o = .adc then s.flagC.toNat else 0
    ∃ t, exec i s = .next t ∧ t.a.toNat = (s.a.toNat + src.toNat + cin) % 256 ∧
      flagsAre t (decide (t.a = 0)) false (decide (s.a.toNat % 16 + src.toNat % 16 + cin > 15))
        (decide (s.a.toNat + src.toNat + cin > 255)) ∧
      regsSame [.a] s t ∧ memSame [] s t ∧ t.sp = s.sp ∧ controlSame s t

/-- SUB, SBC and CP: the difference, its four flags, and nothing else, in all three source forms. Rules R142, R145,
R146, R150. -/
def Obligations.SubSbcAndCpComputeDifferenceAndFlags : Prop :=
  ∀ (o : AluOp) (i : Instr) (src : Byte) (s : State), o = .sub ∨ o = .sbc ∨ o = .cp → isAluForm o s i src →
    let cin := if o = .sbc then s.flagC.toNat else 0
    let dif := (s.a.toNat + 512 - src.toNat - cin) % 256
    ∃ t, exec i s = .next t ∧ t.a.toNat = (if o = .cp then s.a.toNat else dif) ∧
      flagsAre t (decide (dif = 0)) true (decide (s.a.toNat % 16 < src.toNat % 16 + cin))
        (decide (s.a.toNat < src.toNat + cin)) ∧
      regsSame [.a] s t ∧ memSame [] s t ∧ t.sp = s.sp ∧ controlSame s t

/-- AND, XOR and OR: the bitwise result, its four flags, and nothing else, in all three source forms. Rules R147, R148,
R149. -/
def Obligations.AndXorOrComputeBitwiseResultAndFlags : Prop :=
  ∀ (o : AluOp) (i : Instr) (src : Byte) (s : State), o = .and ∨ o = .xor ∨ o = .or → isAluForm o s i src →
    ∃ t, exec i s = .next t ∧
      (∀ k < 8, t.a.getLsbD k =
        match o with
        | .and => (s.a.getLsbD k && src.getLsbD k)
        | .xor => (s.a.getLsbD k ^^ src.getLsbD k)
        | _ => (s.a.getLsbD k || src.getLsbD k)) ∧
      flagsAre t (decide (t.a = 0)) false (decide (o = .and)) false ∧
      regsSame [.a] s t ∧ memSame [] s t ∧ t.sp = s.sp ∧ controlSame s t

/-- INC and DEC of a register or (HL): result, Z, N and H; C and all else unchanged. Rules R151, R152, R153, R154. -/
def Obligations.IncAndDecStepTheOperand : Prop :=
  ∀ (d : Operand8) (s : State),
    (hasRow (incInstr d) [BitVec.ofNat 8 (0x04 + 8 * operandCode d)] (4 + operandSurcharge d) ∧
      ∃ t, exec (incInstr d) s = .next t ∧
        storesTo d (BitVec.ofNat 8 ((s.readOperand d).toNat + 1)) s t ∧
        flagsAre t (decide (s.readOperand d = 0xFF)) false (decide ((s.readOperand d).toNat % 16 = 15)) s.flagC ∧
        t.sp = s.sp ∧ controlSame s t) ∧
    (hasRow (decInstr d) [BitVec.ofNat 8 (0x05 + 8 * operandCode d)] (4 + operandSurcharge d) ∧
      ∃ t, exec (decInstr d) s = .next t ∧
        storesTo d (BitVec.ofNat 8 ((s.readOperand d).toNat + 255)) s t ∧
        flagsAre t (decide (s.readOperand d = 0x01)) true (decide ((s.readOperand d).toNat % 16 = 0)) s.flagC ∧
        t.sp = s.sp ∧ controlSame s t)

/-- DAA adjusts A by 0x06 and 0x60 as the rule says, sets Z, H and C, and changes nothing else. Rule R155. -/
def Obligations.DaaAdjustsAccumulator : Prop :=
  hasRow .daa [0x27] 4 ∧ ∀ s : State, ∃ t, exec .daa s = .next t ∧
    (s.flagN = false →
      t.a.toNat = (s.a.toNat + (if s.flagC = true ∨ s.a.toNat > 0x99 then 0x60 else 0) +
        (if s.flagH = true ∨ s.a.toNat % 16 > 9 then 0x06 else 0)) % 256 ∧
      t.flagC = (s.flagC || decide (s.a.toNat > 0x99))) ∧
    (s.flagN = true →
      t.a.toNat = (s.a.toNat + 256 - (if s.flagC = true then 0x60 else 0) -
        (if s.flagH = true then 0x06 else 0)) % 256 ∧
      t.flagC = s.flagC) ∧
    flagsAre t (decide (t.a = 0)) s.flagN false t.flagC ∧
    regsSame [.a] s t ∧ memSame [] s t ∧ t.sp = s.sp ∧ controlSame s t

/-- CPL complements A; SCF and CCF set and complement C; their flags, and nothing else. Rules R156, R157, R158. -/
def Obligations.CplScfAndCcfWriteTheirFlags : Prop :=
  ∀ s : State,
    (hasRow .cpl [0x2F] 4 ∧ ∃ t, exec .cpl s = .next t ∧ (∀ k < 8, t.a.getLsbD k = !s.a.getLsbD k) ∧
      flagsAre t s.flagZ true true s.flagC ∧ regsSame [.a] s t ∧ memSame [] s t ∧
      t.sp = s.sp ∧ controlSame s t) ∧
    (hasRow .scf [0x37] 4 ∧ ∃ t, exec .scf s = .next t ∧
      flagsAre t s.flagZ false false true ∧ regsSame [] s t ∧ memSame [] s t ∧
      t.sp = s.sp ∧ controlSame s t) ∧
    (hasRow .ccf [0x3F] 4 ∧ ∃ t, exec .ccf s = .next t ∧
      flagsAre t s.flagZ false false (!s.flagC) ∧ regsSame [] s t ∧ memSame [] s t ∧
      t.sp = s.sp ∧ controlSame s t)

/-- ADD then DAA of two packed-BCD bytes leaves the BCD sum, with C set exactly when the sum is 100 or more. From
42_alu8.md R143, R155; 95_test_vectors.md E4. -/
def Obligations.AddThenDaaAddsPackedBcd : Prop :=
  ∀ (m n : Nat) (s : State), m < 100 → n < 100 → s.a = bcd m →
    ∃ u t, exec (.addAN8 (bcd n)) s = .next u ∧ exec .daa u = .next t ∧
      t.a = bcd ((m + n) % 100) ∧ t.flagC = decide (100 ≤ m + n)

/-- RLCA, RRCA, RLA and RRA: the rotated A, C from the bit that leaves, Z, N and H cleared, and nothing else. Rules
R160, R161, R162, R163. -/
def Obligations.AccumulatorRotatesClearZero : Prop :=
  ∀ (i : Instr) (o : RotOp) (op : Byte) (s : State),
    (i, o, op) ∈ [(Instr.rlca, RotOp.rlc, (0x07 : Byte)), (Instr.rrca, RotOp.rrc, (0x0F : Byte)),
      (Instr.rla, RotOp.rl, (0x17 : Byte)), (Instr.rra, RotOp.rr, (0x1F : Byte))] →
    hasRow i [op] 4 ∧ ∃ t, exec i s = .next t ∧ rotatesTo o s.a s.flagC t.a t.flagC ∧
      flagsAre t false false false t.flagC ∧ regsSame [.a] s t ∧ memSame [] s t ∧
      t.sp = s.sp ∧ controlSame s t

/-- The CB rotates, shifts and SWAP on a register or (HL): every bit of the result, C, Z, N and H, and nothing else.
Rules R164, R165, R166, R167, R168, R169, R170, R171, R172. -/
def Obligations.CbRotatesAndShiftsMoveEveryBit : Prop :=
  ∀ (o : RotOp) (d : Operand8) (s : State),
    hasRow (rotInstr o d) [0xCB, BitVec.ofNat 8 (8 * rotCode o + operandCode d)] (8 + operandSurcharge d) ∧
    ∃ t res, exec (rotInstr o d) s = .next t ∧ rotatesTo o (s.readOperand d) s.flagC res t.flagC ∧
      storesTo d res s t ∧ flagsAre t (decide (res = 0)) false false t.flagC ∧
      t.sp = s.sp ∧ controlSame s t

/-- BIT sets Z from the complement of the tested bit, sets H, clears N, and changes nothing else. Rule R173. -/
def Obligations.BitTestsOneBit : Prop :=
  ∀ (b : Fin 8) (d : Operand8) (s : State),
    hasRow (bitInstr b d) [0xCB, BitVec.ofNat 8 (0x40 + 8 * b.val + operandCode d)] (8 + operandSurcharge d) ∧
    ∃ t, exec (bitInstr b d) s = .next t ∧
      flagsAre t (!(s.readOperand d).getLsbD b.val) false true s.flagC ∧
      regsSame [] s t ∧ memSame [] s t ∧ t.sp = s.sp ∧ controlSame s t

/-- RES and SET clear or set one bit of the operand and change nothing else. Rules R174, R175. -/
def Obligations.ResAndSetChangeOneBit : Prop :=
  ∀ (b : Fin 8) (d : Operand8) (s : State),
    (hasRow (resInstr b d) [0xCB, BitVec.ofNat 8 (0x80 + 8 * b.val + operandCode d)] (8 + operandSurcharge d) ∧
      ∃ t res, exec (resInstr b d) s = .next t ∧ storesTo d res s t ∧
        (∀ k < 8, res.getLsbD k = if k = b.val then false else (s.readOperand d).getLsbD k) ∧
        flagsSame s t ∧ t.sp = s.sp ∧ controlSame s t) ∧
    (hasRow (setInstr b d) [0xCB, BitVec.ofNat 8 (0xC0 + 8 * b.val + operandCode d)] (8 + operandSurcharge d) ∧
      ∃ t res, exec (setInstr b d) s = .next t ∧ storesTo d res s t ∧
        (∀ k < 8, res.getLsbD k = if k = b.val then true else (s.readOperand d).getLsbD k) ∧
        flagsSame s t ∧ t.sp = s.sp ∧ controlSame s t)

/-- ADD HL,rr: the 16-bit sum, N, H and C; Z and all else unchanged. Rule R180. -/
def Obligations.AddHLComputesWideSum : Prop :=
  ∀ (p : Pair) (s : State),
    hasRow (addHLInstr p) [BitVec.ofNat 8 (0x09 + 16 * pairCode p)] 8 ∧
    ∃ t, exec (addHLInstr p) s = .next t ∧
      t.hl.toNat = (s.hl.toNat + (s.getPair p).toNat) % 65536 ∧
      flagsAre t s.flagZ false (decide (s.hl.toNat % 4096 + (s.getPair p).toNat % 4096 > 0xFFF))
        (decide (s.hl.toNat + (s.getPair p).toNat > 0xFFFF)) ∧
      regsSame [.h, .l] s t ∧ memSame [] s t ∧ t.sp = s.sp ∧ controlSame s t

/-- INC rr and DEC rr step the pair modulo 2^16 and change no flag and nothing else. Rules R181, R182. -/
def Obligations.IncAndDecPairWrapWithoutFlags : Prop :=
  ∀ (p : Pair) (s : State),
    (hasRow (incPairInstr p) [BitVec.ofNat 8 (0x03 + 16 * pairCode p)] 8 ∧
      ∃ t, exec (incPairInstr p) s = .next t ∧ (t.getPair p).toNat = ((s.getPair p).toNat + 1) % 65536 ∧
        regsSame (pairRegs p) s t ∧ (p ≠ .sp → t.sp = s.sp) ∧ memSame [] s t ∧
        flagsSame s t ∧ controlSame s t) ∧
    (hasRow (decPairInstr p) [BitVec.ofNat 8 (0x0B + 16 * pairCode p)] 8 ∧
      ∃ t, exec (decPairInstr p) s = .next t ∧ (t.getPair p).toNat = ((s.getPair p).toNat + 65535) % 65536 ∧
        regsSame (pairRegs p) s t ∧ (p ≠ .sp → t.sp = s.sp) ∧ memSame [] s t ∧
        flagsSame s t ∧ controlSame s t)

/-- ADD SP,e8 and LD HL,SP+e8: the signed sum, H and C from the unsigned low bytes, Z and N cleared, and nothing else.
Rules R183, R184, R185. -/
def Obligations.StackPointerPlusDisplacement : Prop :=
  ∀ (e : Byte) (s : State),
    let sum := (s.sp.toNat + e.toNat + (if e.toNat < 128 then 0 else 65280)) % 65536
    let h := decide (s.sp.toNat % 16 + e.toNat % 16 > 15)
    let c := decide (s.sp.toNat % 256 + e.toNat > 255)
    (hasRow (.addSPE8 e) [0xE8, e] 16 ∧ ∃ t, exec (.addSPE8 e) s = .next t ∧ t.sp.toNat = sum ∧
      flagsAre t false false h c ∧ regsSame [] s t ∧ memSame [] s t ∧ controlSame s t) ∧
    (hasRow (.ldHLSPE8 e) [0xF8, e] 12 ∧ ∃ t, exec (.ldHLSPE8 e) s = .next t ∧ t.hl.toNat = sum ∧
      flagsAre t false false h c ∧ regsSame [.h, .l] s t ∧ memSame [] s t ∧ t.sp = s.sp ∧ controlSame s t)

/-- LD rr,n16 and LD SP,HL write the pair and change nothing else. Rules R190, R192. -/
def Obligations.LoadPairImmediateAndLoadSPFromHL : Prop :=
  (∀ (p : Pair) (n : Word) (s : State),
      hasRow (loadPairInstr p n) [BitVec.ofNat 8 (0x01 + 16 * pairCode p), lowByte n, highByte n] 12 ∧
      ∃ t, exec (loadPairInstr p n) s = .next t ∧ t.getPair p = n ∧ regsSame (pairRegs p) s t ∧
        (p ≠ .sp → t.sp = s.sp) ∧ memSame [] s t ∧ flagsSame s t ∧ controlSame s t) ∧
    ∀ s : State, hasRow .ldSPHL [0xF9] 8 ∧ ∃ t, exec .ldSPHL s = .next t ∧ t.sp = s.hl ∧
      regsSame [] s t ∧ memSame [] s t ∧ flagsSame s t ∧ controlSame s t

/-- LD (n16),SP stores SP little-endian at n16 and n16+1 and changes nothing else. Rule R191. -/
def Obligations.StoreSPWritesTwoBytesLowFirst : Prop :=
  ∀ (n : Word) (s : State),
    hasRow (.ldMemN16SP n) [0x08, lowByte n, highByte n] 20 ∧
    ∃ t, exec (.ldMemN16SP n) s = .next t ∧ t.readByte n = lowByte s.sp ∧ t.readByte (n + 1) = highByte s.sp ∧
      memSame [n, n + 1] s t ∧ regsSame [] s t ∧ flagsSame s t ∧ t.sp = s.sp ∧ controlSame s t

/-- PUSH stores the pair below SP, high byte at SP-1 and low byte at SP-2, and changes nothing else. Rules R57, R193. -/
def Obligations.PushStoresHighThenLow : Prop :=
  ∀ (q : StackPair) (s : State),
    hasRow (pushInstr q) [BitVec.ofNat 8 (0xC5 + 16 * stackPairCode q)] 16 ∧
    ∃ t, exec (pushInstr q) s = .next t ∧ pushed (s.getStackPair q) s t ∧
      (q = .af → t.readByte (s.sp - 2) &&& 0x0F = 0 ∧ t.readByte (s.sp - 2) &&& 0xF0 = s.f &&& 0xF0) ∧
      regsSame [] s t ∧ flagsSame s t ∧ controlSame s t

/-- POP loads the pair from SP and SP+1 and raises SP by two; POP AF forces the low nibble of F to zero. Rules R58,
R194, R195. -/
def Obligations.PopLoadsLowThenHigh : Prop :=
  ∀ (q : StackPair) (s : State),
    hasRow (popInstr q) [BitVec.ofNat 8 (0xC1 + 16 * stackPairCode q)] 12 ∧
    ∃ t, exec (popInstr q) s = .next t ∧ t.sp = s.sp + 2 ∧ memSame [] s t ∧ controlSame s t ∧
      (match q with
      | .bc => t.b = s.readByte (s.sp + 1) ∧ t.c = s.readByte s.sp ∧ regsSame [.b, .c] s t ∧ flagsSame s t
      | .de => t.d = s.readByte (s.sp + 1) ∧ t.e = s.readByte s.sp ∧ regsSame [.d, .e] s t ∧ flagsSame s t
      | .hl => t.h = s.readByte (s.sp + 1) ∧ t.l = s.readByte s.sp ∧ regsSame [.h, .l] s t ∧ flagsSame s t
      | .af => t.a = s.readByte (s.sp + 1) ∧ t.f = s.readByte s.sp &&& 0xF0 ∧ regsSame [.a] s t ∧
          flagsAre t ((s.readByte s.sp).getLsbD 7) ((s.readByte s.sp).getLsbD 6)
            ((s.readByte s.sp).getLsbD 5) ((s.readByte s.sp).getLsbD 4))

/-- PUSH then POP of the same pair gives back its value and SP, wherever SP points. From 20_memory.md R57, R58;
45_load16_stack.md R193, R194, R195. -/
def Obligations.PushThenPopRestoresPair : Prop :=
  ∀ (q : StackPair) (s : State),
    ∃ u t, exec (pushInstr q) s = .next u ∧ exec (popInstr q) u = .next t ∧
      t.getStackPair q = s.getStackPair q ∧ t.sp = s.sp ∧ regsSame [] s t ∧ flagsSame s t

/-- JP n16, JP HL and JR e8 write PC and change nothing else. Rules R201, R203, R204. -/
def Obligations.UnconditionalJumpsSetPC : Prop :=
  ∀ (n : Word) (e : Byte) (s : State),
    (hasRow (.jpN16 n) [0xC3, lowByte n, highByte n] 16 ∧
      ∃ t, exec (.jpN16 n) s = .next t ∧ jumpsTo n 0 s t) ∧
    (hasRow .jpHL [0xE9] 4 ∧ ∃ t, exec .jpHL s = .next t ∧ jumpsTo s.hl 0 s t) ∧
    (hasRow (.jrE8 e) [0x18, e] 12 ∧ ∃ t, exec (.jrE8 e) s = .next t ∧
      jumpsTo (BitVec.ofNat 16 (s.pc.toNat + e.toNat + (if e.toNat < 128 then 0 else 65280))) 0 s t)

/-- JP cc and JR cc jump, at 4 extra cycles, exactly when their flag condition holds, and change nothing else. Rules
R30, R202, R205. -/
def Obligations.ConditionalJumpsTestOneFlag : Prop :=
  ∀ (cc : Cond) (n : Word) (e : Byte) (s : State),
    let holds := match cc with
      | .nz => s.flagZ = false
      | .z => s.flagZ = true
      | .nc => s.flagC = false
      | .c => s.flagC = true
    (hasRow (jumpCondInstr cc n) [BitVec.ofNat 8 (0xC2 + 8 * condCode cc), lowByte n, highByte n] 12 ∧
      ∃ t, exec (jumpCondInstr cc n) s = .next t ∧ (holds → jumpsTo n 4 s t) ∧ (¬holds → t = s)) ∧
    (hasRow (jumpRelCondInstr cc e) [BitVec.ofNat 8 (0x20 + 8 * condCode cc), e] 8 ∧
      ∃ t, exec (jumpRelCondInstr cc e) s = .next t ∧ (¬holds → t = s) ∧
        (holds → jumpsTo (BitVec.ofNat 16 (s.pc.toNat + e.toNat + (if e.toNat < 128 then 0 else 65280))) 4 s t))

/-- CALL n16 and RST push PC and go to their target, and change nothing else. Rules R206, R211. -/
def Obligations.CallAndRstPushReturnAddress : Prop :=
  (∀ (n : Word) (s : State),
      hasRow (.callN16 n) [0xCD, lowByte n, highByte n] 24 ∧
      ∃ t, exec (.callN16 n) s = .next t ∧ callsTo n 0 s t) ∧
    ∀ (y : Fin 8) (s : State),
      hasRow (rstInstr y) [BitVec.ofNat 8 (0xC7 + 8 * y.val)] 16 ∧
      ∃ t, exec (rstInstr y) s = .next t ∧ callsTo (BitVec.ofNat 16 (8 * y.val)) 0 s t

/-- CALL cc calls, at 12 extra cycles, exactly when its flag condition holds, and otherwise changes nothing. Rule R207. -/
def Obligations.ConditionalCallPushesOnlyWhenTaken : Prop :=
  ∀ (cc : Cond) (n : Word) (s : State),
    hasRow (callCondInstr cc n) [BitVec.ofNat 8 (0xC4 + 8 * condCode cc), lowByte n, highByte n] 12 ∧
    ∃ t, exec (callCondInstr cc n) s = .next t ∧
      (s.cond cc = true → callsTo n 12 s t) ∧ (s.cond cc = false → t = s)

/-- RET pops PC; RETI pops PC and sets IME at once; nothing else changes. Rules R208, R210. -/
def Obligations.RetAndRetiPopPC : Prop :=
  ∀ s : State,
    (hasRow .ret [0xC9] 16 ∧ ∃ t, exec .ret s = .next t ∧ returnsFrom 0 s t ∧ engineSame s t) ∧
    (hasRow .reti [0xD9] 16 ∧ ∃ t, exec .reti s = .next t ∧ returnsFrom 0 s t ∧
      t.ime = true ∧ engineSame { s with ime := true } t)

/-- RET cc returns, at 12 extra cycles, exactly when its flag condition holds, and otherwise changes nothing. Rule
R209. -/
def Obligations.ConditionalReturnPopsOnlyWhenTaken : Prop :=
  ∀ (cc : Cond) (s : State),
    hasRow (retCondInstr cc) [BitVec.ofNat 8 (0xC0 + 8 * condCode cc)] 8 ∧
    ∃ t, exec (retCondInstr cc) s = .next t ∧
      (s.cond cc = true → returnsFrom 12 s t ∧ engineSame s t) ∧ (s.cond cc = false → t = s)

/-- A RET right after a CALL or RST gives back PC and SP, wherever SP points. From 46_control.md R206, R208, R211;
20_memory.md R57, R58. -/
def Obligations.ReturnUndoesCall : Prop :=
  ∀ (i : Instr) (s : State), ((∃ n, i = .callN16 n) ∨ ∃ y, i = rstInstr y) →
    ∃ u t, exec i s = .next u ∧ exec .ret u = .next t ∧ t.pc = s.pc ∧ t.sp = s.sp ∧
      regsSame [] s t ∧ flagsSame s t ∧ engineSame s t

/-- NOP changes nothing; DI clears IME and the pending enable; EI sets the pending enable only; STOP sets Stopped only.
From 47_misc_system.md R220, R222, R223, R224. -/
def Obligations.NopDiEiAndStopWriteTheirControlBits : Prop :=
  ∀ (pad : Byte) (s : State),
    (hasRow .nop [0x00] 4 ∧ exec .nop s = .next s) ∧
    (hasRow .di [0xF3] 4 ∧ ∃ t, exec .di s = .next t ∧ t.ime = false ∧ t.imePending = false ∧
      { t with ime := s.ime, imePending := s.imePending } = s) ∧
    (hasRow .ei [0xFB] 4 ∧ ∃ t, exec .ei s = .next t ∧ t.imePending = true ∧
      { t with imePending := s.imePending } = s) ∧
    (hasRow (.stop pad) [0x10, pad] 4 ∧ ∃ t, exec (.stop pad) s = .next t ∧ t.stopped = true ∧
      { t with stopped := s.stopped } = s)

/-- HALT arms the HALT bug when IME is 0 and an interrupt is pending, and otherwise sets Halted. From 47_misc_system.md
R221; 00_scope.md R8. -/
def Obligations.HaltHaltsOrArmsHaltBug : Prop :=
  hasRow .halt [0x76] 4 ∧ (∀ s : State, haltsOrArmsBug engineParams s (exec .halt s)) ∧
    ∀ (p : Params) (s : State), haltsOrArmsBug p s (execWith p .halt s)

/-- Each illegal byte answers UnimplementedOpcode with its byte, the model's address latch (log entry 4) and the state
(log entry 8). From 60_exceptions.md R240; 47_misc_system.md R226; 30_encoding.md R79; notes/assumptions/4.md;
notes/assumptions/8.md. -/
def Obligations.IllegalBytesFault : Prop :=
  ∀ (i : Instr) (s : State), i.hasTableEntry = false →
    ∃ op ∈ illegalSet, encode i = [op] ∧
      exec i s = .fault (.unimplementedOpcode op s.opcodeAddr s) ∧
      Fault.code (.unimplementedOpcode op s.opcodeAddr s) = 0

/-- The prefixCb constructor (the model's choice, log entry 11) does what the CB row of the byte after it does, at that
row's added cost. From 40_execution_cycle.md R106; 47_misc_system.md R225; notes/assumptions/11.md;
notes/assumptions/12.md. -/
def Obligations.PrefixHandlerAgreesWithCbRows : Prop :=
  hasRow .prefixCb [0xCB] 4 ∧ ∀ (p : Params) (s : State),
    let cb := s.readByte s.pc
    ∃ i u, decode [0xCB, cb] = .ok i ∧ exec i { s with pc := s.pc + 1 } = .next u ∧
      execWith p .prefixCb s = .next { u with remaining := u.remaining + p.cbCost cb } ∧
      costOf p i = p.opcodeCost 0xCB + p.cbCost cb ∧
      exec .prefixCb s =
        .next { u with remaining := u.remaining + (if cb.toNat % 8 = 6 then 8 else 4) }

/-- A ready core's step is exec of the instruction decoded at PC, between the fetch and the finishing phases. From
40_execution_cycle.md R102, R103, R107, R111; notes/assumptions/9.md; notes/assumptions/12.md. -/
def Obligations.StepRunsTheDecodedInstruction : Prop :=
  ∀ (p : Params) (s : State) (i : Instr), s.ready → i.wellFormed = true →
    decode [s.readByte s.pc, s.readByte s.operandAddr, s.readByte (s.operandAddr + 1)] = .ok i →
    (s.readByte s.pc ∉ p.illegalSet →
      (∀ u, execWith p i (s.afterFetch p.stopLength) = .next u →
        stepWith p s = .next ((({ u with remaining := u.remaining + costOf p i - 1 }.applyIme p.eiDelay
          s.imePending .fetch).interruptCheck p).timerTick p)) ∧
      ∀ r, execWith p i (s.afterFetch p.stopLength) = .fault r → stepWith p s = .fault r) ∧
    (∀ u, exec i (s.afterFetch .two) = .next u →
      step s = .next ((({ u with remaining := u.remaining + costOf engineParams i - 1 }.applyIme .nextStep
        s.imePending .fetch).interruptCheck engineParams).timerTick engineParams)) ∧
    (∀ r, exec i (s.afterFetch .two) = .fault r → step s = .fault r) ∧
    (i ≠ .halt → ∀ u, execWith p i u = exec i u)

/-- The fetch latches opcode and address (log entry 4) and moves PC past the instruction (log entry 9), one less under
the HALT bug. From 40_execution_cycle.md R103, R104, R105; 30_encoding.md R70; 00_scope.md R8; 47_misc_system.md
R222; notes/assumptions/4.md; notes/assumptions/9.md. -/
def Obligations.FetchLatchesOpcodeAndMovesPastInstruction : Prop :=
  ∀ (n : StopLength) (s : State),
    let t := s.afterFetch n
    let from_ := if s.haltBug then s.pc else s.pc + 1
    let length := if n = .one ∧ s.readByte s.pc = 0x10 then 1 else (encode s.fetchedInstr).length
    s.fetchedInstr = decodeBytes (s.readByte s.pc) (s.readByte from_) (s.readByte (from_ + 1)) ∧
    t.opcode = s.readByte s.pc ∧ t.opcodeAddr = s.pc ∧ t.haltBug = false ∧
    t.pc = from_ + BitVec.ofNat 16 (length - 1) ∧ s.afterOpcodeFetch = { t with pc := from_ } ∧
    (∀ k, (encode s.fetchedInstr)[k]? = some (if k = 0 then s.readByte s.pc
        else s.readByte (from_ + BitVec.ofNat 16 (k - 1))) ∨ (encode s.fetchedInstr).length ≤ k) ∧
    regsSame [] s t ∧ flagsSame s t ∧ memSame [] s t ∧ t.sp = s.sp ∧ t.remaining = s.remaining ∧
    engineSame { s with opcode := t.opcode, opcodeAddr := t.opcodeAddr, haltBug := false } t

/-- A step faults exactly when it fetches an illegal byte, carrying the state (log entry 8), and otherwise goes on; it
never refuses. From 00_scope.md R8, R12; 40_execution_cycle.md R102, R109; 60_exceptions.md R240;
notes/assumptions/4.md; notes/assumptions/5.md; notes/assumptions/8.md. -/
def Obligations.StepAnswersNextOrTheOneFault : Prop :=
  ∀ (p : Params) (s : State),
    (s.fetches p ∧ illegalByte p (s.readByte s.pc) →
      ∃ u, stepWith p s = .fault (.unimplementedOpcode (s.readByte s.pc) s.pc u) ∧
        u.opcode = s.readByte s.pc ∧ u.pc = (if s.haltBug then s.pc else s.pc + 1) ∧ u.remaining = 0 ∧
        u.haltBug = false ∧ u.total = s.total ∧ u.sp = s.sp ∧ u.ime = s.ime ∧ u.imePending = s.imePending ∧
        u.f = s.f ∧ regsSame [] s u ∧ u.mem = s.mem) ∧
    (¬(s.fetches p ∧ illegalByte p (s.readByte s.pc)) → ∃ t, stepWith p s = .next t)

/-- total grows by exactly one each step, and two runs that differ in total by a multiple of 1024 stay equal but for
that. Rule R33. -/
def Obligations.TotalCountsStepsAndOnlyItsResidueMatters : Prop :=
  ∀ (p : Params) (s : State) (n : Nat),
    (∀ t, stepWith p s = .next t → t.total = s.total + 1) ∧
    stepWith p { s with total := s.total + 1024 * n } =
      mapState (fun t => { t with total := t.total + 1024 * n }) (stepWith p s)

/-- No step reads the opcode latch or its address: two runs that differ in them only stay equal but for them. From
10_state.md R31, R45; 40_execution_cycle.md R102. -/
def Obligations.OpcodeLatchIsNeverRead : Prop :=
  ∀ (p : Params) (s : State) (op : Byte) (x : Word),
    let blank := fun t : State => { t with opcode := 0, opcodeAddr := 0 }
    mapState blank (stepWith p { s with opcode := op, opcodeAddr := x }) = mapState blank (stepWith p s) ∧
    ∀ r, stepWith p s = .fault r → stepWith p { s with opcode := op, opcodeAddr := x } = .fault r

/-- A Stopped step only ticks the timer, and only the host ends it; no interrupt does. Rule R253. -/
def Obligations.StoppedStepOnlyTicksTimer : Prop :=
  ∀ (p : Params) (s : State), s.stopped = true →
    (∃ t, stepWith p s = .next t ∧ t = s.timerTick p ∧ t.stopped = true ∧ t.pc = s.pc ∧ t.ime = s.ime ∧
      t.imePending = s.imePending ∧ t.remaining = s.remaining) ∧
    (s.resumeFromStop).stopped = false ∧ { s.resumeFromStop with stopped := true } = s

/-- A Halted step wakes exactly when an enabled interrupt is requested, whatever IME, and otherwise only ticks the
timer. From 60_exceptions.md R242; 40_execution_cycle.md R102. -/
def Obligations.HaltedStepWaitsOrWakes : Prop :=
  ∀ (p : Params) (s : State), s.stopped = false → s.halted = true →
    (s.readByte p.ieAddr &&& s.readByte p.ifAddr &&& 0x1F = 0 →
      stepWith p s = .next (s.timerTick p) ∧ (s.timerTick p).halted = true ∧
        (s.timerTick p).remaining = s.remaining ∧ (s.timerTick p).total = s.total + 1) ∧
    (s.readByte p.ieAddr &&& s.readByte p.ifAddr &&& 0x1F ≠ 0 →
      stepWith p s = stepWith p { s with halted := false })

/-- A mid-instruction step counts one cycle off and may enter one interrupt; it changes no register, flag or other
byte. From 40_execution_cycle.md R102, R108; 60_exceptions.md R245, R255. -/
def Obligations.MidInstructionStepTouchesNoInstructionResult : Prop :=
  ∀ (p : Params) (s : State), s.stopped = false → s.halted = false → 0 < s.remaining →
    ∃ t, stepWith p s = .next t ∧ regsSame [] s t ∧ t.f = s.f ∧ t.opcode = s.opcode ∧
      t.opcodeAddr = s.opcodeAddr ∧ t.stopped = false ∧ t.halted = false ∧ t.haltBug = s.haltBug ∧
      t.total = s.total + 1 ∧
      ((t.pc = s.pc ∧ t.sp = s.sp ∧ t.remaining + 1 = s.remaining ∧ memSame [p.divAddr, p.timaAddr, p.ifAddr] s t) ∨
       ∃ i : Fin 5, t.pc = BitVec.ofNat 16 (0x40 + 8 * i.val) ∧ t.sp = s.sp - 2 ∧ t.ime = false ∧
        t.remaining + 1 = s.remaining + 20 ∧
        memSame [p.divAddr, p.timaAddr, p.ifAddr, s.sp - 1, s.sp - 2] s t)

/-- The interrupt check enters the lowest pending source exactly when IME is 1 and one is pending, with R245's whole
effect. Rules R244, R245. -/
def Obligations.InterruptCheckEntersLowestPendingSource : Prop :=
  ∀ (p : Params) (s : State),
    let pend := s.readByte p.ieAddr &&& s.readByte p.ifAddr &&& 0x1F
    let t := s.interruptCheck p
    (s.ime = false ∨ pend = 0 → t = s) ∧
    ∀ i < 5, s.ime = true → pend.getLsbD i = true → (∀ j < i, pend.getLsbD j = false) →
      t.ime = false ∧ t.sp = s.sp - 2 ∧ t.pc = BitVec.ofNat 16 (0x40 + 8 * i) ∧
      t.remaining = s.remaining + 20 ∧ t.halted = (s.halted && !p.serviceClearsHalt) ∧
      t.readByte (s.sp - 1) = highByte s.pc ∧ t.readByte (s.sp - 2) = lowByte s.pc ∧
      (p.ifAddr ∉ [s.sp - 1, s.sp - 2] → ∀ k < 8,
        (t.readByte p.ifAddr).getLsbD k = if k = i then false else (s.readByte p.ifAddr).getLsbD k) ∧
      memSame [p.ifAddr, s.sp - 1, s.sp - 2] s t ∧ regsSame [] s t ∧ t.f = s.f ∧
      engineSame { s with ime := false, halted := t.halted } t

/-- HALT with IME = 1 and a pending interrupt enters the handler and stays Halted there unless SERVICE_CLEARS_HALT.
From 60_exceptions.md R252; 47_misc_system.md R221. -/
def Obligations.HaltWithPendingInterruptEntersThenMayStayHalted : Prop :=
  ∀ (p : Params) (s : State), s.ready → s.haltBug = false → s.ime = true → s.imePending = false →
    s.readByte s.pc = 0x76 → 0x76 ∉ p.illegalSet → 1 ≤ p.opcodeCost 0x76 →
    s.readByte p.ieAddr &&& s.readByte p.ifAddr &&& 0x1F ≠ 0 →
    ∃ (t : State) (i : Fin 5), stepWith p s = .next t ∧ t.pc = BitVec.ofNat 16 (0x40 + 8 * i.val) ∧
      t.ime = false ∧ t.remaining + 1 = p.opcodeCost 0x76 + 20 ∧ t.halted = !p.serviceClearsHalt ∧
      t.haltBug = false ∧ engineParams.serviceClearsHalt = false ∧ engineParams.opcodeCost 0x76 = 4

/-- EI leaves IME 0 in its own step; a mid step (NEXT_STEP) or the next fetch step (both modes) sets it; DI cancels a
pending enable. From 40_execution_cycle.md R102, R108; 47_misc_system.md R223, R224; 90_conflicts.md C4;
95_test_vectors.md E8. -/
def Obligations.EnableTakesEffectOneStepAfterEI : Prop :=
  ∀ (p : Params) (s : State), s.stopped = false → s.halted = false →
    (s.remaining = 0 → s.readByte s.pc = 0xFB → 0xFB ∉ p.illegalSet → s.ime = false → s.imePending = false →
      ∃ t, stepWith p s = .next t ∧ t.ime = false ∧ t.imePending = true ∧
        t.remaining = p.opcodeCost 0xFB - 1) ∧
    (0 < s.remaining → s.imePending = true → ∃ t, stepWith p s = .next t ∧
      let checked := if p.midOrder = .timerFirst then s.timerTick p else s
      (p.eiDelay = .nextStep → t.imePending = false ∧
        if checked.readByte p.ieAddr &&& checked.readByte p.ifAddr &&& 0x1F = 0 then t.ime = true
        else t.ime = false ∧ t.sp = s.sp - 2) ∧
      (p.eiDelay = .afterNextInstruction → t.imePending = true ∧ (s.ime = false → t.ime = false))) ∧
    (s.remaining = 0 → s.imePending = true → s.readByte s.pc ∉ p.illegalSet → ∀ u : State,
      execWith p s.fetchedInstr (s.afterFetch p.stopLength) = .next u → u.imePending = true →
      ∃ t, stepWith p s = .next t ∧ t.imePending = false ∧
        if u.readByte p.ieAddr &&& u.readByte p.ifAddr &&& 0x1F = 0 then t.ime = true
        else t.ime = false ∧ t.sp = u.sp - 2) ∧
    (s.remaining = 0 → s.readByte s.pc = 0xF3 → 0xF3 ∉ p.illegalSet →
      ∃ t, stepWith p s = .next t ∧ t.ime = false ∧ t.imePending = false ∧ t.sp = s.sp ∧
        t.pc = if s.haltBug then s.pc else s.pc + 1)

/-- One timer tick: total, DIV, TIMA with its overflow reload and request, and nothing else. Rules R256, R257, R258. -/
def Obligations.TimerTickDrivesDividerAndCounter : Prop :=
  timerAddrsDistinct engineParams ∧ ∀ (p : Params) (s : State), timerAddrsDistinct p →
    let t := s.timerTick p
    let tac := s.readByte p.tacAddr
    let period := if tac.toNat % 4 = 0 then 1024 else if tac.toNat % 4 = 1 then 16
      else if tac.toNat % 4 = 2 then 64 else 256
    let counts := tac.getLsbD 2 = true ∧ (s.total + 1) % period = 0
    t.total = s.total + 1 ∧
    (t.readByte p.divAddr).toNat =
      ((s.readByte p.divAddr).toNat + (if (s.total + 1) % 256 = 0 then 1 else 0)) % 256 ∧
    (¬counts → t.readByte p.timaAddr = s.readByte p.timaAddr ∧ t.readByte p.ifAddr = s.readByte p.ifAddr) ∧
    (counts → s.readByte p.timaAddr = 0xFF →
      t.readByte p.timaAddr = s.readByte p.tmaAddr ∧
      ∀ k < 8, (t.readByte p.ifAddr).getLsbD k = ((s.readByte p.ifAddr).getLsbD k || decide (k = 2))) ∧
    (counts → s.readByte p.timaAddr ≠ 0xFF →
      (t.readByte p.timaAddr).toNat = (s.readByte p.timaAddr).toNat + 1 ∧ t.readByte p.ifAddr = s.readByte p.ifAddr) ∧
    memSame [p.divAddr, p.timaAddr, p.ifAddr] s t ∧ regsSame [] s t ∧ t.f = s.f ∧ t.sp = s.sp ∧ t.pc = s.pc ∧
    t.remaining = s.remaining ∧ engineSame { s with total := s.total + 1 } t

/-- Where no interrupt is entered, a fetch step leaves Cost + extra - 1; 0xCB's CBCost is charged with its base cost
(log entry 12). From 40_execution_cycle.md R106, R107; 46_control.md R200; 00_scope.md R8; notes/assumptions/12.md. -/
def Obligations.FetchStepChargesCostLessOne : Prop :=
  ∀ (p : Params) (s u : State), s.ready → s.readByte s.pc ∉ p.illegalSet →
    execWith p s.fetchedInstr (s.afterFetch p.stopLength) = .next u →
    (1 ≤ costOf p s.fetchedInstr →
      lowestSource (u.pending p) = none ∨ (u.ime = false ∧ (s.imePending = false ∨ u.imePending = false)) →
      ∃ t, stepWith p s = .next t ∧ t.remaining + 1 = u.remaining + costOf p s.fetchedInstr) ∧
    costOf p s.fetchedInstr = p.opcodeCost (s.readByte s.pc) +
      (if s.readByte s.pc = 0xCB then p.cbCost (s.readByte s.operandAddr) else 0) ∧
    4 ≤ costOf engineParams s.fetchedInstr ∧
    (∀ cc, (∃ n, s.fetchedInstr = jumpCondInstr cc n) ∨ (∃ e, s.fetchedInstr = jumpRelCondInstr cc e) →
      u.remaining = if s.cond cc = true then 4 else 0) ∧
    (∀ cc, (∃ n, s.fetchedInstr = callCondInstr cc n) ∨ s.fetchedInstr = retCondInstr cc →
      u.remaining = if s.cond cc = true then 12 else 0) ∧
    ((∀ cc, (∀ n, s.fetchedInstr ≠ jumpCondInstr cc n) ∧ (∀ e, s.fetchedInstr ≠ jumpRelCondInstr cc e) ∧
        (∀ n, s.fetchedInstr ≠ callCondInstr cc n) ∧ s.fetchedInstr ≠ retCondInstr cc) → u.remaining = 0)

/-- Decoding an instruction's encoded bytes gives the instruction back, for all 512 rows and every operand value. From
30_encoding.md R70 to R82; opcode_table.json. -/
def Obligations.DecodeOfEncodeIsTheInstruction : Prop :=
  ∀ (i : Instr) (rest : List Byte), decode (encode i) = .ok i ∧
    (i.selfContained = true → decode (encode i ++ rest) = .ok i)

/-- Every three bytes begin with exactly the encoding of the instruction decoded from them, of the length the opcode
fixes. From 30_encoding.md R70, R82. -/
def Obligations.EncodeOfDecodeIsTheBytes : Prop :=
  ∀ op b1 b2 : Byte,
    encode (decodeBytes op b1 b2) <+: [op, b1, b2] ∧
    (encode (decodeBytes op b1 b2)).length = opcodeLength .two op ∧
    1 ≤ opcodeLength .two op ∧ opcodeLength .two op ≤ 3 ∧
    opcodeLength .one op = if op = 0x10 then 1 else opcodeLength .two op

/-- One word of each family, written out from the opcode map, decodes to the instruction it stands for. From
30_encoding.md R78, R81; opcode_table.json. -/
def Obligations.SampleWordsDecodeToTheirRows : Prop :=
  decode [0x7E] = .ok .ldAMemHL ∧ decode [0x3E, 0x42] = .ok (.ldAN8 0x42) ∧
    decode [0xF0, 0x05] = .ok (.ldhAMemN8 0x05) ∧ decode [0x9F] = .ok .sbcAA ∧
    decode [0xFE, 0x3C] = .ok (.cpAN8 0x3C) ∧ decode [0x35] = .ok .decMemHL ∧
    decode [0xCB, 0x7C] = .ok .bit7H ∧ decode [0xCB, 0x37] = .ok .swapA ∧
    decode [0x39] = .ok .addHLSP ∧ decode [0x21, 0x34, 0x12] = .ok (.ldHLN16 0x1234) ∧
    decode [0xF1] = .ok .popAF ∧ decode [0xDC, 0x00, 0x02] = .ok (.callCN16 0x0200) ∧
    decode [0x10, 0x00] = .ok (.stop 0x00) ∧ decode [0xED] = .ok .illegalED

/-- The decoded instruction has no dispatch-table entry exactly when its opcode byte is one of the eleven of
ILLEGAL_SET. Rule R79. -/
def Obligations.IllegalSetIsExactlyElevenBytes : Prop :=
  ∀ op b1 b2 : Byte,
    ((decodeBytes op b1 b2).hasTableEntry = false ↔ op ∈ illegalSet) ∧
    (decodeBytes 0xCB b1 b2).wellFormed = true ∧ (decodeBytes op b1 b2).selfContained = true ∧
    engineParams.illegalSet = illegalSet

/-- The machine's invariant holds in the state every launch starts in, the reset state among them. From
70_reset_and_hazards.md R270; 10_state.md R42; 40_execution_cycle.md R107. -/
def Obligations.ResetSatisfiesInvariant : Prop :=
  (∀ (p : Params) (n : Nat), (State.launch p).Inv n) ∧ State.reset = State.launch engineParams ∧
    State.reset.Inv 24 ∧ costsWithin engineParams 24

/-- Every step under every value of the parameters keeps the invariant, and so does every host action between steps.
From 10_state.md R23, R32; 40_execution_cycle.md R102, R107, R108, R114; 60_exceptions.md R245; 00_scope.md R8. -/
def Obligations.EveryStepKeepsInvariant : Prop :=
  (∀ (p : Params) (n : Nat) (s t : State), costsWithin p n → s.Inv n → stepWith p s = .next t → t.Inv n) ∧
    ∀ (p : Params) (n : Nat) (s : State) (act : HostAction), s.Inv n → (s.act p act).Inv n

/-- A running core is ready to fetch within 39 steps more than the highest cost (63 by default), interrupts entered on
the way included. From 40_execution_cycle.md R101, R102, R107; 60_exceptions.md R245; 10_state.md R32. -/
def Obligations.InFlightCyclesRunOutWithin63Steps : Prop :=
  ∀ (p : Params) (n : Nat) (s : State), s.Inv n → s.stopped = false → s.halted = false →
    ∃ k ≤ n + 39, ∃ t, runWith p k s = .next t ∧ t.phase = .readyToFetch

/-- Reset gives each register RESET_REGS (log entry 2), clears the execution state and leaves memory; power-on gives
MEM0. From 10_state.md R42; 70_reset_and_hazards.md R270; 00_scope.md R8; notes/assumptions/1.md;
notes/assumptions/2.md. -/
def Obligations.ResetSetsDocumentedValues : Prop :=
  (∀ (p : Params) (s t : State), t = s.hostReset p ∨ t = State.launch p →
      t.a = highByte p.resetRegs.af ∧ t.f = lowByte p.resetRegs.af &&& 0xF0 ∧ t.b = highByte p.resetRegs.bc ∧
      t.c = lowByte p.resetRegs.bc ∧ t.d = highByte p.resetRegs.de ∧ t.e = lowByte p.resetRegs.de ∧
      t.h = highByte p.resetRegs.hl ∧ t.l = lowByte p.resetRegs.hl ∧ t.sp = p.resetRegs.sp ∧
      t.pc = p.resetRegs.pc ∧ t.opcode = 0 ∧ t.remaining = 0 ∧ t.total = 0 ∧ t.stopped = false ∧
      t.halted = false ∧ t.haltBug = false ∧ t.ime = false ∧ t.imePending = false) ∧
    (∀ (p : Params) (s : State) (x : Word),
      (s.hostReset p).readByte x = s.readByte x ∧ (State.launch p).readByte x = p.mem0 x) ∧
    engineParams.resetRegs =
      { af := 0x01B0, bc := 0x0013, de := 0x00D8, hl := 0x014D, sp := 0xFFFE, pc := 0x0100 } ∧
    State.reset = State.launch engineParams

/-- An instruction changes SP only if it is a stack transfer, LD SP, ADD SP, INC SP or DEC SP, and by the modular
amount. Rule R25. -/
def Obligations.SPChangesOnlyByStackInstructions : Prop :=
  (∀ (i : Instr) (s t : State), exec i s = .next t → t.sp ≠ s.sp →
      (((∃ q, i = pushInstr q) ∨ (∃ n, i = .callN16 n) ∨ (∃ cc n, i = callCondInstr cc n) ∨ ∃ y, i = rstInstr y) ∧
        t.sp.toNat = (s.sp.toNat + 65534) % 65536) ∨
      (((∃ q, i = popInstr q) ∨ i = .ret ∨ (∃ cc, i = retCondInstr cc) ∨ i = .reti) ∧
        t.sp.toNat = (s.sp.toNat + 2) % 65536) ∨
      (∃ n, i = .ldSPN16 n ∧ t.sp = n) ∨ (i = .ldSPHL ∧ t.sp = s.hl) ∨
      (∃ e : Byte, i = .addSPE8 e ∧
        t.sp.toNat = (s.sp.toNat + e.toNat + (if e.toNat < 128 then 0 else 65280)) % 65536) ∨
      (i = .incSP ∧ t.sp.toNat = (s.sp.toNat + 1) % 65536) ∨
      (i = .decSP ∧ t.sp.toNat = (s.sp.toNat + 65535) % 65536)) ∧
    ∀ (p : Params) (s t : State), ¬s.fetches p → stepWith p s = .next t → t.sp ≠ s.sp →
      t.sp = s.sp - 2 ∧ t.ime = false

/-- IME goes from 0 to 1 only in a fetch step of RETI or in a step that found the enable pending. From 10_state.md R37,
R38; 40_execution_cycle.md R108; 46_control.md R210. -/
def Obligations.ImeRisesOnlyByRetiOrPendingEnable : Prop :=
  ∀ (p : Params) (s t : State), stepWith p s = .next t → s.ime = false → t.ime = true →
    (s.imePending = true ∧ t.imePending = false) ∨ (s.fetches p ∧ s.readByte s.pc = 0xD9)

/-- No load, store, jump, call, return, push, pair INC/DEC, RES, SET or control instruction changes F. From 10_state.md
R24, R41. -/
def Obligations.NonFlagInstructionsKeepF : Prop :=
  ∀ (i : Instr) (s t : State), exec i s = .next t → ¬flagsSame s t →
    (∃ o x, i = aluInstr o x) ∨ (∃ o n, i = aluImmInstr o n) ∨ (∃ d, i = incInstr d) ∨ (∃ d, i = decInstr d) ∨
    i = .daa ∨ i = .cpl ∨ i = .scf ∨ i = .ccf ∨ i = .rlca ∨ i = .rrca ∨ i = .rla ∨ i = .rra ∨
    (∃ o d, i = rotInstr o d) ∨ (∃ b d, i = bitInstr b d) ∨ i = .prefixCb ∨ (∃ p, i = addHLInstr p) ∨
    (∃ e, i = .addSPE8 e) ∨ (∃ e, i = .ldHLSPE8 e) ∨ i = .popAF
end

