-- ==== Sys2Proof/Laws/Families.lean ====
section
/-! SUPPORT. Every instruction is a member of one family: the case principle that proves a property of all 512 constructors from one case a family. -/

namespace Sys2Proof

/-- To prove `P` of every instruction, prove it of every family. -/
theorem Instr.family_cases {P : Instr → Prop}
    (load : ∀ d s, P (loadInstr d s))
    (loadImm : ∀ d n, P (loadImmInstr d n))
    (alu : ∀ o s, P (aluInstr o s))
    (aluImm : ∀ o n, P (aluImmInstr o n))
    (inc : ∀ d, P (incInstr d))
    (dec : ∀ d, P (decInstr d))
    (rot : ∀ o d, P (rotInstr o d))
    (bit : ∀ b d, P (bitInstr b d))
    (res : ∀ b d, P (resInstr b d))
    (set : ∀ b d, P (setInstr b d))
    (loadPair : ∀ p n, P (loadPairInstr p n))
    (addHL : ∀ p, P (addHLInstr p))
    (incPair : ∀ p, P (incPairInstr p))
    (decPair : ∀ p, P (decPairInstr p))
    (push : ∀ q, P (pushInstr q))
    (pop : ∀ q, P (popInstr q))
    (jumpCond : ∀ cc n, P (jumpCondInstr cc n))
    (jumpRelCond : ∀ cc e, P (jumpRelCondInstr cc e))
    (callCond : ∀ cc n, P (callCondInstr cc n))
    (retCond : ∀ cc, P (retCondInstr cc))
    (rst : ∀ y, P (rstInstr y))
    (of_nop : P .nop)
    (of_ldMemBCA : P .ldMemBCA)
    (of_rlca : P .rlca)
    (of_ldMemN16SP : ∀ n, P (.ldMemN16SP n))
    (of_ldAMemBC : P .ldAMemBC)
    (of_rrca : P .rrca)
    (of_stop : ∀ pad, P (.stop pad))
    (of_ldMemDEA : P .ldMemDEA)
    (of_rla : P .rla)
    (of_jrE8 : ∀ e, P (.jrE8 e))
    (of_ldAMemDE : P .ldAMemDE)
    (of_rra : P .rra)
    (of_ldMemHLIncA : P .ldMemHLIncA)
    (of_daa : P .daa)
    (of_ldAMemHLInc : P .ldAMemHLInc)
    (of_cpl : P .cpl)
    (of_ldMemHLDecA : P .ldMemHLDecA)
    (of_scf : P .scf)
    (of_ldAMemHLDec : P .ldAMemHLDec)
    (of_ccf : P .ccf)
    (of_jpN16 : ∀ n, P (.jpN16 n))
    (of_ret : P .ret)
    (of_prefixCb : P .prefixCb)
    (of_callN16 : ∀ n, P (.callN16 n))
    (of_reti : P .reti)
    (of_ldhMemN8A : ∀ n, P (.ldhMemN8A n))
    (of_ldMemCA : P .ldMemCA)
    (of_addSPE8 : ∀ e, P (.addSPE8 e))
    (of_jpHL : P .jpHL)
    (of_ldMemN16A : ∀ n, P (.ldMemN16A n))
    (of_ldhAMemN8 : ∀ n, P (.ldhAMemN8 n))
    (of_ldAMemC : P .ldAMemC)
    (of_di : P .di)
    (of_ldHLSPE8 : ∀ e, P (.ldHLSPE8 e))
    (of_ldSPHL : P .ldSPHL)
    (of_ldAMemN16 : ∀ n, P (.ldAMemN16 n))
    (of_ei : P .ei)
    (illegal : ∀ i, i.hasTableEntry = false → P i)
    (i : Instr) : P i :=
  match i with
  | .nop => of_nop
  | .ldBCN16 n => loadPair .bc n
  | .ldMemBCA => of_ldMemBCA
  | .incBC => incPair .bc
  | .incB => inc (.reg .b)
  | .decB => dec (.reg .b)
  | .ldBN8 n => loadImm (.reg .b) n
  | .rlca => of_rlca
  | .ldMemN16SP n => of_ldMemN16SP n
  | .addHLBC => addHL .bc
  | .ldAMemBC => of_ldAMemBC
  | .decBC => decPair .bc
  | .incC => inc (.reg .c)
  | .decC => dec (.reg .c)
  | .ldCN8 n => loadImm (.reg .c) n
  | .rrca => of_rrca
  | .stop pad => of_stop pad
  | .ldDEN16 n => loadPair .de n
  | .ldMemDEA => of_ldMemDEA
  | .incDE => incPair .de
  | .incD => inc (.reg .d)
  | .decD => dec (.reg .d)
  | .ldDN8 n => loadImm (.reg .d) n
  | .rla => of_rla
  | .jrE8 e => of_jrE8 e
  | .addHLDE => addHL .de
  | .ldAMemDE => of_ldAMemDE
  | .decDE => decPair .de
  | .incE => inc (.reg .e)
  | .decE => dec (.reg .e)
  | .ldEN8 n => loadImm (.reg .e) n
  | .rra => of_rra
  | .jrNZE8 e => jumpRelCond .nz e
  | .ldHLN16 n => loadPair .hl n
  | .ldMemHLIncA => of_ldMemHLIncA
  | .incHL => incPair .hl
  | .incH => inc (.reg .h)
  | .decH => dec (.reg .h)
  | .ldHN8 n => loadImm (.reg .h) n
  | .daa => of_daa
  | .jrZE8 e => jumpRelCond .z e
  | .addHLHL => addHL .hl
  | .ldAMemHLInc => of_ldAMemHLInc
  | .decHL => decPair .hl
  | .incL => inc (.reg .l)
  | .decL => dec (.reg .l)
  | .ldLN8 n => loadImm (.reg .l) n
  | .cpl => of_cpl
  | .jrNCE8 e => jumpRelCond .nc e
  | .ldSPN16 n => loadPair .sp n
  | .ldMemHLDecA => of_ldMemHLDecA
  | .incSP => incPair .sp
  | .incMemHL => inc .memHL
  | .decMemHL => dec .memHL
  | .ldMemHLN8 n => loadImm .memHL n
  | .scf => of_scf
  | .jrCE8 e => jumpRelCond .c e
  | .addHLSP => addHL .sp
  | .ldAMemHLDec => of_ldAMemHLDec
  | .decSP => decPair .sp
  | .incA => inc (.reg .a)
  | .decA => dec (.reg .a)
  | .ldAN8 n => loadImm (.reg .a) n
  | .ccf => of_ccf
  | .ldBB => load (.reg .b) (.reg .b)
  | .ldBC => load (.reg .b) (.reg .c)
  | .ldBD => load (.reg .b) (.reg .d)
  | .ldBE => load (.reg .b) (.reg .e)
  | .ldBH => load (.reg .b) (.reg .h)
  | .ldBL => load (.reg .b) (.reg .l)
  | .ldBMemHL => load (.reg .b) .memHL
  | .ldBA => load (.reg .b) (.reg .a)
  | .ldCB => load (.reg .c) (.reg .b)
  | .ldCC => load (.reg .c) (.reg .c)
  | .ldCD => load (.reg .c) (.reg .d)
  | .ldCE => load (.reg .c) (.reg .e)
  | .ldCH => load (.reg .c) (.reg .h)
  | .ldCL => load (.reg .c) (.reg .l)
  | .ldCMemHL => load (.reg .c) .memHL
  | .ldCA => load (.reg .c) (.reg .a)
  | .ldDB => load (.reg .d) (.reg .b)
  | .ldDC => load (.reg .d) (.reg .c)
  | .ldDD => load (.reg .d) (.reg .d)
  | .ldDE => load (.reg .d) (.reg .e)
  | .ldDH => load (.reg .d) (.reg .h)
  | .ldDL => load (.reg .d) (.reg .l)
  | .ldDMemHL => load (.reg .d) .memHL
  | .ldDA => load (.reg .d) (.reg .a)
  | .ldEB => load (.reg .e) (.reg .b)
  | .ldEC => load (.reg .e) (.reg .c)
  | .ldED => load (.reg .e) (.reg .d)
  | .ldEE => load (.reg .e) (.reg .e)
  | .ldEH => load (.reg .e) (.reg .h)
  | .ldEL => load (.reg .e) (.reg .l)
  | .ldEMemHL => load (.reg .e) .memHL
  | .ldEA => load (.reg .e) (.reg .a)
  | .ldHB => load (.reg .h) (.reg .b)
  | .ldHC => load (.reg .h) (.reg .c)
  | .ldHD => load (.reg .h) (.reg .d)
  | .ldHE => load (.reg .h) (.reg .e)
  | .ldHH => load (.reg .h) (.reg .h)
  | .ldHL => load (.reg .h) (.reg .l)
  | .ldHMemHL => load (.reg .h) .memHL
  | .ldHA => load (.reg .h) (.reg .a)
  | .ldLB => load (.reg .l) (.reg .b)
  | .ldLC => load (.reg .l) (.reg .c)
  | .ldLD => load (.reg .l) (.reg .d)
  | .ldLE => load (.reg .l) (.reg .e)
  | .ldLH => load (.reg .l) (.reg .h)
  | .ldLL => load (.reg .l) (.reg .l)
  | .ldLMemHL => load (.reg .l) .memHL
  | .ldLA => load (.reg .l) (.reg .a)
  | .ldMemHLB => load .memHL (.reg .b)
  | .ldMemHLC => load .memHL (.reg .c)
  | .ldMemHLD => load .memHL (.reg .d)
  | .ldMemHLE => load .memHL (.reg .e)
  | .ldMemHLH => load .memHL (.reg .h)
  | .ldMemHLL => load .memHL (.reg .l)
  | .halt => load .memHL .memHL
  | .ldMemHLA => load .memHL (.reg .a)
  | .ldAB => load (.reg .a) (.reg .b)
  | .ldAC => load (.reg .a) (.reg .c)
  | .ldAD => load (.reg .a) (.reg .d)
  | .ldAE => load (.reg .a) (.reg .e)
  | .ldAH => load (.reg .a) (.reg .h)
  | .ldAL => load (.reg .a) (.reg .l)
  | .ldAMemHL => load (.reg .a) .memHL
  | .ldAA => load (.reg .a) (.reg .a)
  | .addAB => alu .add (.reg .b)
  | .addAC => alu .add (.reg .c)
  | .addAD => alu .add (.reg .d)
  | .addAE => alu .add (.reg .e)
  | .addAH => alu .add (.reg .h)
  | .addAL => alu .add (.reg .l)
  | .addAMemHL => alu .add .memHL
  | .addAA => alu .add (.reg .a)
  | .adcAB => alu .adc (.reg .b)
  | .adcAC => alu .adc (.reg .c)
  | .adcAD => alu .adc (.reg .d)
  | .adcAE => alu .adc (.reg .e)
  | .adcAH => alu .adc (.reg .h)
  | .adcAL => alu .adc (.reg .l)
  | .adcAMemHL => alu .adc .memHL
  | .adcAA => alu .adc (.reg .a)
  | .subAB => alu .sub (.reg .b)
  | .subAC => alu .sub (.reg .c)
  | .subAD => alu .sub (.reg .d)
  | .subAE => alu .sub (.reg .e)
  | .subAH => alu .sub (.reg .h)
  | .subAL => alu .sub (.reg .l)
  | .subAMemHL => alu .sub .memHL
  | .subAA => alu .sub (.reg .a)
  | .sbcAB => alu .sbc (.reg .b)
  | .sbcAC => alu .sbc (.reg .c)
  | .sbcAD => alu .sbc (.reg .d)
  | .sbcAE => alu .sbc (.reg .e)
  | .sbcAH => alu .sbc (.reg .h)
  | .sbcAL => alu .sbc (.reg .l)
  | .sbcAMemHL => alu .sbc .memHL
  | .sbcAA => alu .sbc (.reg .a)
  | .andAB => alu .and (.reg .b)
  | .andAC => alu .and (.reg .c)
  | .andAD => alu .and (.reg .d)
  | .andAE => alu .and (.reg .e)
  | .andAH => alu .and (.reg .h)
  | .andAL => alu .and (.reg .l)
  | .andAMemHL => alu .and .memHL
  | .andAA => alu .and (.reg .a)
  | .xorAB => alu .xor (.reg .b)
  | .xorAC => alu .xor (.reg .c)
  | .xorAD => alu .xor (.reg .d)
  | .xorAE => alu .xor (.reg .e)
  | .xorAH => alu .xor (.reg .h)
  | .xorAL => alu .xor (.reg .l)
  | .xorAMemHL => alu .xor .memHL
  | .xorAA => alu .xor (.reg .a)
  | .orAB => alu .or (.reg .b)
  | .orAC => alu .or (.reg .c)
  | .orAD => alu .or (.reg .d)
  | .orAE => alu .or (.reg .e)
  | .orAH => alu .or (.reg .h)
  | .orAL => alu .or (.reg .l)
  | .orAMemHL => alu .or .memHL
  | .orAA => alu .or (.reg .a)
  | .cpAB => alu .cp (.reg .b)
  | .cpAC => alu .cp (.reg .c)
  | .cpAD => alu .cp (.reg .d)
  | .cpAE => alu .cp (.reg .e)
  | .cpAH => alu .cp (.reg .h)
  | .cpAL => alu .cp (.reg .l)
  | .cpAMemHL => alu .cp .memHL
  | .cpAA => alu .cp (.reg .a)
  | .retNZ => retCond .nz
  | .popBC => pop .bc
  | .jpNZN16 n => jumpCond .nz n
  | .jpN16 n => of_jpN16 n
  | .callNZN16 n => callCond .nz n
  | .pushBC => push .bc
  | .addAN8 n => aluImm .add n
  | .rst00 => rst 0
  | .retZ => retCond .z
  | .ret => of_ret
  | .jpZN16 n => jumpCond .z n
  | .prefixCb => of_prefixCb
  | .callZN16 n => callCond .z n
  | .callN16 n => of_callN16 n
  | .adcAN8 n => aluImm .adc n
  | .rst08 => rst 1
  | .retNC => retCond .nc
  | .popDE => pop .de
  | .jpNCN16 n => jumpCond .nc n
  | .illegalD3 => illegal _ rfl
  | .callNCN16 n => callCond .nc n
  | .pushDE => push .de
  | .subAN8 n => aluImm .sub n
  | .rst10 => rst 2
  | .retC => retCond .c
  | .reti => of_reti
  | .jpCN16 n => jumpCond .c n
  | .illegalDB => illegal _ rfl
  | .callCN16 n => callCond .c n
  | .illegalDD => illegal _ rfl
  | .sbcAN8 n => aluImm .sbc n
  | .rst18 => rst 3
  | .ldhMemN8A n => of_ldhMemN8A n
  | .popHL => pop .hl
  | .ldMemCA => of_ldMemCA
  | .illegalE3 => illegal _ rfl
  | .illegalE4 => illegal _ rfl
  | .pushHL => push .hl
  | .andAN8 n => aluImm .and n
  | .rst20 => rst 4
  | .addSPE8 e => of_addSPE8 e
  | .jpHL => of_jpHL
  | .ldMemN16A n => of_ldMemN16A n
  | .illegalEB => illegal _ rfl
  | .illegalEC => illegal _ rfl
  | .illegalED => illegal _ rfl
  | .xorAN8 n => aluImm .xor n
  | .rst28 => rst 5
  | .ldhAMemN8 n => of_ldhAMemN8 n
  | .popAF => pop .af
  | .ldAMemC => of_ldAMemC
  | .di => of_di
  | .illegalF4 => illegal _ rfl
  | .pushAF => push .af
  | .orAN8 n => aluImm .or n
  | .rst30 => rst 6
  | .ldHLSPE8 e => of_ldHLSPE8 e
  | .ldSPHL => of_ldSPHL
  | .ldAMemN16 n => of_ldAMemN16 n
  | .ei => of_ei
  | .illegalFC => illegal _ rfl
  | .illegalFD => illegal _ rfl
  | .cpAN8 n => aluImm .cp n
  | .rst38 => rst 7
  | .rlcB => rot .rlc (.reg .b)
  | .rlcC => rot .rlc (.reg .c)
  | .rlcD => rot .rlc (.reg .d)
  | .rlcE => rot .rlc (.reg .e)
  | .rlcH => rot .rlc (.reg .h)
  | .rlcL => rot .rlc (.reg .l)
  | .rlcMemHL => rot .rlc .memHL
  | .rlcA => rot .rlc (.reg .a)
  | .rrcB => rot .rrc (.reg .b)
  | .rrcC => rot .rrc (.reg .c)
  | .rrcD => rot .rrc (.reg .d)
  | .rrcE => rot .rrc (.reg .e)
  | .rrcH => rot .rrc (.reg .h)
  | .rrcL => rot .rrc (.reg .l)
  | .rrcMemHL => rot .rrc .memHL
  | .rrcA => rot .rrc (.reg .a)
  | .rlB => rot .rl (.reg .b)
  | .rlC => rot .rl (.reg .c)
  | .rlD => rot .rl (.reg .d)
  | .rlE => rot .rl (.reg .e)
  | .rlH => rot .rl (.reg .h)
  | .rlL => rot .rl (.reg .l)
  | .rlMemHL => rot .rl .memHL
  | .rlA => rot .rl (.reg .a)
  | .rrB => rot .rr (.reg .b)
  | .rrC => rot .rr (.reg .c)
  | .rrD => rot .rr (.reg .d)
  | .rrE => rot .rr (.reg .e)
  | .rrH => rot .rr (.reg .h)
  | .rrL => rot .rr (.reg .l)
  | .rrMemHL => rot .rr .memHL
  | .rrA => rot .rr (.reg .a)
  | .slaB => rot .sla (.reg .b)
  | .slaC => rot .sla (.reg .c)
  | .slaD => rot .sla (.reg .d)
  | .slaE => rot .sla (.reg .e)
  | .slaH => rot .sla (.reg .h)
  | .slaL => rot .sla (.reg .l)
  | .slaMemHL => rot .sla .memHL
  | .slaA => rot .sla (.reg .a)
  | .sraB => rot .sra (.reg .b)
  | .sraC => rot .sra (.reg .c)
  | .sraD => rot .sra (.reg .d)
  | .sraE => rot .sra (.reg .e)
  | .sraH => rot .sra (.reg .h)
  | .sraL => rot .sra (.reg .l)
  | .sraMemHL => rot .sra .memHL
  | .sraA => rot .sra (.reg .a)
  | .swapB => rot .swap (.reg .b)
  | .swapC => rot .swap (.reg .c)
  | .swapD => rot .swap (.reg .d)
  | .swapE => rot .swap (.reg .e)
  | .swapH => rot .swap (.reg .h)
  | .swapL => rot .swap (.reg .l)
  | .swapMemHL => rot .swap .memHL
  | .swapA => rot .swap (.reg .a)
  | .srlB => rot .srl (.reg .b)
  | .srlC => rot .srl (.reg .c)
  | .srlD => rot .srl (.reg .d)
  | .srlE => rot .srl (.reg .e)
  | .srlH => rot .srl (.reg .h)
  | .srlL => rot .srl (.reg .l)
  | .srlMemHL => rot .srl .memHL
  | .srlA => rot .srl (.reg .a)
  | .bit0B => bit 0 (.reg .b)
  | .bit0C => bit 0 (.reg .c)
  | .bit0D => bit 0 (.reg .d)
  | .bit0E => bit 0 (.reg .e)
  | .bit0H => bit 0 (.reg .h)
  | .bit0L => bit 0 (.reg .l)
  | .bit0MemHL => bit 0 .memHL
  | .bit0A => bit 0 (.reg .a)
  | .bit1B => bit 1 (.reg .b)
  | .bit1C => bit 1 (.reg .c)
  | .bit1D => bit 1 (.reg .d)
  | .bit1E => bit 1 (.reg .e)
  | .bit1H => bit 1 (.reg .h)
  | .bit1L => bit 1 (.reg .l)
  | .bit1MemHL => bit 1 .memHL
  | .bit1A => bit 1 (.reg .a)
  | .bit2B => bit 2 (.reg .b)
  | .bit2C => bit 2 (.reg .c)
  | .bit2D => bit 2 (.reg .d)
  | .bit2E => bit 2 (.reg .e)
  | .bit2H => bit 2 (.reg .h)
  | .bit2L => bit 2 (.reg .l)
  | .bit2MemHL => bit 2 .memHL
  | .bit2A => bit 2 (.reg .a)
  | .bit3B => bit 3 (.reg .b)
  | .bit3C => bit 3 (.reg .c)
  | .bit3D => bit 3 (.reg .d)
  | .bit3E => bit 3 (.reg .e)
  | .bit3H => bit 3 (.reg .h)
  | .bit3L => bit 3 (.reg .l)
  | .bit3MemHL => bit 3 .memHL
  | .bit3A => bit 3 (.reg .a)
  | .bit4B => bit 4 (.reg .b)
  | .bit4C => bit 4 (.reg .c)
  | .bit4D => bit 4 (.reg .d)
  | .bit4E => bit 4 (.reg .e)
  | .bit4H => bit 4 (.reg .h)
  | .bit4L => bit 4 (.reg .l)
  | .bit4MemHL => bit 4 .memHL
  | .bit4A => bit 4 (.reg .a)
  | .bit5B => bit 5 (.reg .b)
  | .bit5C => bit 5 (.reg .c)
  | .bit5D => bit 5 (.reg .d)
  | .bit5E => bit 5 (.reg .e)
  | .bit5H => bit 5 (.reg .h)
  | .bit5L => bit 5 (.reg .l)
  | .bit5MemHL => bit 5 .memHL
  | .bit5A => bit 5 (.reg .a)
  | .bit6B => bit 6 (.reg .b)
  | .bit6C => bit 6 (.reg .c)
  | .bit6D => bit 6 (.reg .d)
  | .bit6E => bit 6 (.reg .e)
  | .bit6H => bit 6 (.reg .h)
  | .bit6L => bit 6 (.reg .l)
  | .bit6MemHL => bit 6 .memHL
  | .bit6A => bit 6 (.reg .a)
  | .bit7B => bit 7 (.reg .b)
  | .bit7C => bit 7 (.reg .c)
  | .bit7D => bit 7 (.reg .d)
  | .bit7E => bit 7 (.reg .e)
  | .bit7H => bit 7 (.reg .h)
  | .bit7L => bit 7 (.reg .l)
  | .bit7MemHL => bit 7 .memHL
  | .bit7A => bit 7 (.reg .a)
  | .res0B => res 0 (.reg .b)
  | .res0C => res 0 (.reg .c)
  | .res0D => res 0 (.reg .d)
  | .res0E => res 0 (.reg .e)
  | .res0H => res 0 (.reg .h)
  | .res0L => res 0 (.reg .l)
  | .res0MemHL => res 0 .memHL
  | .res0A => res 0 (.reg .a)
  | .res1B => res 1 (.reg .b)
  | .res1C => res 1 (.reg .c)
  | .res1D => res 1 (.reg .d)
  | .res1E => res 1 (.reg .e)
  | .res1H => res 1 (.reg .h)
  | .res1L => res 1 (.reg .l)
  | .res1MemHL => res 1 .memHL
  | .res1A => res 1 (.reg .a)
  | .res2B => res 2 (.reg .b)
  | .res2C => res 2 (.reg .c)
  | .res2D => res 2 (.reg .d)
  | .res2E => res 2 (.reg .e)
  | .res2H => res 2 (.reg .h)
  | .res2L => res 2 (.reg .l)
  | .res2MemHL => res 2 .memHL
  | .res2A => res 2 (.reg .a)
  | .res3B => res 3 (.reg .b)
  | .res3C => res 3 (.reg .c)
  | .res3D => res 3 (.reg .d)
  | .res3E => res 3 (.reg .e)
  | .res3H => res 3 (.reg .h)
  | .res3L => res 3 (.reg .l)
  | .res3MemHL => res 3 .memHL
  | .res3A => res 3 (.reg .a)
  | .res4B => res 4 (.reg .b)
  | .res4C => res 4 (.reg .c)
  | .res4D => res 4 (.reg .d)
  | .res4E => res 4 (.reg .e)
  | .res4H => res 4 (.reg .h)
  | .res4L => res 4 (.reg .l)
  | .res4MemHL => res 4 .memHL
  | .res4A => res 4 (.reg .a)
  | .res5B => res 5 (.reg .b)
  | .res5C => res 5 (.reg .c)
  | .res5D => res 5 (.reg .d)
  | .res5E => res 5 (.reg .e)
  | .res5H => res 5 (.reg .h)
  | .res5L => res 5 (.reg .l)
  | .res5MemHL => res 5 .memHL
  | .res5A => res 5 (.reg .a)
  | .res6B => res 6 (.reg .b)
  | .res6C => res 6 (.reg .c)
  | .res6D => res 6 (.reg .d)
  | .res6E => res 6 (.reg .e)
  | .res6H => res 6 (.reg .h)
  | .res6L => res 6 (.reg .l)
  | .res6MemHL => res 6 .memHL
  | .res6A => res 6 (.reg .a)
  | .res7B => res 7 (.reg .b)
  | .res7C => res 7 (.reg .c)
  | .res7D => res 7 (.reg .d)
  | .res7E => res 7 (.reg .e)
  | .res7H => res 7 (.reg .h)
  | .res7L => res 7 (.reg .l)
  | .res7MemHL => res 7 .memHL
  | .res7A => res 7 (.reg .a)
  | .set0B => set 0 (.reg .b)
  | .set0C => set 0 (.reg .c)
  | .set0D => set 0 (.reg .d)
  | .set0E => set 0 (.reg .e)
  | .set0H => set 0 (.reg .h)
  | .set0L => set 0 (.reg .l)
  | .set0MemHL => set 0 .memHL
  | .set0A => set 0 (.reg .a)
  | .set1B => set 1 (.reg .b)
  | .set1C => set 1 (.reg .c)
  | .set1D => set 1 (.reg .d)
  | .set1E => set 1 (.reg .e)
  | .set1H => set 1 (.reg .h)
  | .set1L => set 1 (.reg .l)
  | .set1MemHL => set 1 .memHL
  | .set1A => set 1 (.reg .a)
  | .set2B => set 2 (.reg .b)
  | .set2C => set 2 (.reg .c)
  | .set2D => set 2 (.reg .d)
  | .set2E => set 2 (.reg .e)
  | .set2H => set 2 (.reg .h)
  | .set2L => set 2 (.reg .l)
  | .set2MemHL => set 2 .memHL
  | .set2A => set 2 (.reg .a)
  | .set3B => set 3 (.reg .b)
  | .set3C => set 3 (.reg .c)
  | .set3D => set 3 (.reg .d)
  | .set3E => set 3 (.reg .e)
  | .set3H => set 3 (.reg .h)
  | .set3L => set 3 (.reg .l)
  | .set3MemHL => set 3 .memHL
  | .set3A => set 3 (.reg .a)
  | .set4B => set 4 (.reg .b)
  | .set4C => set 4 (.reg .c)
  | .set4D => set 4 (.reg .d)
  | .set4E => set 4 (.reg .e)
  | .set4H => set 4 (.reg .h)
  | .set4L => set 4 (.reg .l)
  | .set4MemHL => set 4 .memHL
  | .set4A => set 4 (.reg .a)
  | .set5B => set 5 (.reg .b)
  | .set5C => set 5 (.reg .c)
  | .set5D => set 5 (.reg .d)
  | .set5E => set 5 (.reg .e)
  | .set5H => set 5 (.reg .h)
  | .set5L => set 5 (.reg .l)
  | .set5MemHL => set 5 .memHL
  | .set5A => set 5 (.reg .a)
  | .set6B => set 6 (.reg .b)
  | .set6C => set 6 (.reg .c)
  | .set6D => set 6 (.reg .d)
  | .set6E => set 6 (.reg .e)
  | .set6H => set 6 (.reg .h)
  | .set6L => set 6 (.reg .l)
  | .set6MemHL => set 6 .memHL
  | .set6A => set 6 (.reg .a)
  | .set7B => set 7 (.reg .b)
  | .set7C => set 7 (.reg .c)
  | .set7D => set 7 (.reg .d)
  | .set7E => set 7 (.reg .e)
  | .set7H => set 7 (.reg .h)
  | .set7L => set 7 (.reg .l)
  | .set7MemHL => set 7 .memHL
  | .set7A => set 7 (.reg .a)

end Sys2Proof
end

