-- ==== Sys2Proof/Laws/State.lean ====
section
/-! SUPPORT. One lemma for each field that each named update of State leaves alone or sets, so that no later proof unfolds a record update. -/

namespace Sys2Proof.Machine

namespace State

/-! ### `setReg` -/

@[simp] theorem setReg_f (s : State) (r : Reg8) (v : Byte) : (s.setReg r v).f = s.f := by cases r <;> rfl
@[simp] theorem setReg_sp (s : State) (r : Reg8) (v : Byte) : (s.setReg r v).sp = s.sp := by cases r <;> rfl
@[simp] theorem setReg_pc (s : State) (r : Reg8) (v : Byte) : (s.setReg r v).pc = s.pc := by cases r <;> rfl
@[simp] theorem setReg_opcode (s : State) (r : Reg8) (v : Byte) : (s.setReg r v).opcode = s.opcode := by cases r <;> rfl
@[simp] theorem setReg_opcodeAddr (s : State) (r : Reg8) (v : Byte) : (s.setReg r v).opcodeAddr = s.opcodeAddr := by cases r <;> rfl
@[simp] theorem setReg_remaining (s : State) (r : Reg8) (v : Byte) : (s.setReg r v).remaining = s.remaining := by cases r <;> rfl
@[simp] theorem setReg_total (s : State) (r : Reg8) (v : Byte) : (s.setReg r v).total = s.total := by cases r <;> rfl
@[simp] theorem setReg_stopped (s : State) (r : Reg8) (v : Byte) : (s.setReg r v).stopped = s.stopped := by cases r <;> rfl
@[simp] theorem setReg_halted (s : State) (r : Reg8) (v : Byte) : (s.setReg r v).halted = s.halted := by cases r <;> rfl
@[simp] theorem setReg_haltBug (s : State) (r : Reg8) (v : Byte) : (s.setReg r v).haltBug = s.haltBug := by cases r <;> rfl
@[simp] theorem setReg_ime (s : State) (r : Reg8) (v : Byte) : (s.setReg r v).ime = s.ime := by cases r <;> rfl
@[simp] theorem setReg_imePending (s : State) (r : Reg8) (v : Byte) : (s.setReg r v).imePending = s.imePending := by cases r <;> rfl
@[simp] theorem setReg_mem (s : State) (r : Reg8) (v : Byte) : (s.setReg r v).mem = s.mem := by cases r <;> rfl

/-! ### `setFlags` -/

@[simp] theorem setFlags_a (s : State) (fl : FlagBits) : (s.setFlags fl).a = s.a := rfl
@[simp] theorem setFlags_b (s : State) (fl : FlagBits) : (s.setFlags fl).b = s.b := rfl
@[simp] theorem setFlags_c (s : State) (fl : FlagBits) : (s.setFlags fl).c = s.c := rfl
@[simp] theorem setFlags_d (s : State) (fl : FlagBits) : (s.setFlags fl).d = s.d := rfl
@[simp] theorem setFlags_e (s : State) (fl : FlagBits) : (s.setFlags fl).e = s.e := rfl
@[simp] theorem setFlags_h (s : State) (fl : FlagBits) : (s.setFlags fl).h = s.h := rfl
@[simp] theorem setFlags_l (s : State) (fl : FlagBits) : (s.setFlags fl).l = s.l := rfl
@[simp] theorem setFlags_sp (s : State) (fl : FlagBits) : (s.setFlags fl).sp = s.sp := rfl
@[simp] theorem setFlags_pc (s : State) (fl : FlagBits) : (s.setFlags fl).pc = s.pc := rfl
@[simp] theorem setFlags_opcode (s : State) (fl : FlagBits) : (s.setFlags fl).opcode = s.opcode := rfl
@[simp] theorem setFlags_opcodeAddr (s : State) (fl : FlagBits) : (s.setFlags fl).opcodeAddr = s.opcodeAddr := rfl
@[simp] theorem setFlags_remaining (s : State) (fl : FlagBits) : (s.setFlags fl).remaining = s.remaining := rfl
@[simp] theorem setFlags_total (s : State) (fl : FlagBits) : (s.setFlags fl).total = s.total := rfl
@[simp] theorem setFlags_stopped (s : State) (fl : FlagBits) : (s.setFlags fl).stopped = s.stopped := rfl
@[simp] theorem setFlags_halted (s : State) (fl : FlagBits) : (s.setFlags fl).halted = s.halted := rfl
@[simp] theorem setFlags_haltBug (s : State) (fl : FlagBits) : (s.setFlags fl).haltBug = s.haltBug := rfl
@[simp] theorem setFlags_ime (s : State) (fl : FlagBits) : (s.setFlags fl).ime = s.ime := rfl
@[simp] theorem setFlags_imePending (s : State) (fl : FlagBits) : (s.setFlags fl).imePending = s.imePending := rfl
@[simp] theorem setFlags_mem (s : State) (fl : FlagBits) : (s.setFlags fl).mem = s.mem := rfl

/-! ### `setFlag` -/

@[simp] theorem setFlag_a (s : State) (k : Flag) (v : Bool) : (s.setFlag k v).a = s.a := by cases k <;> rfl
@[simp] theorem setFlag_b (s : State) (k : Flag) (v : Bool) : (s.setFlag k v).b = s.b := by cases k <;> rfl
@[simp] theorem setFlag_c (s : State) (k : Flag) (v : Bool) : (s.setFlag k v).c = s.c := by cases k <;> rfl
@[simp] theorem setFlag_d (s : State) (k : Flag) (v : Bool) : (s.setFlag k v).d = s.d := by cases k <;> rfl
@[simp] theorem setFlag_e (s : State) (k : Flag) (v : Bool) : (s.setFlag k v).e = s.e := by cases k <;> rfl
@[simp] theorem setFlag_h (s : State) (k : Flag) (v : Bool) : (s.setFlag k v).h = s.h := by cases k <;> rfl
@[simp] theorem setFlag_l (s : State) (k : Flag) (v : Bool) : (s.setFlag k v).l = s.l := by cases k <;> rfl
@[simp] theorem setFlag_sp (s : State) (k : Flag) (v : Bool) : (s.setFlag k v).sp = s.sp := by cases k <;> rfl
@[simp] theorem setFlag_pc (s : State) (k : Flag) (v : Bool) : (s.setFlag k v).pc = s.pc := by cases k <;> rfl
@[simp] theorem setFlag_opcode (s : State) (k : Flag) (v : Bool) : (s.setFlag k v).opcode = s.opcode := by cases k <;> rfl
@[simp] theorem setFlag_opcodeAddr (s : State) (k : Flag) (v : Bool) : (s.setFlag k v).opcodeAddr = s.opcodeAddr := by cases k <;> rfl
@[simp] theorem setFlag_remaining (s : State) (k : Flag) (v : Bool) : (s.setFlag k v).remaining = s.remaining := by cases k <;> rfl
@[simp] theorem setFlag_total (s : State) (k : Flag) (v : Bool) : (s.setFlag k v).total = s.total := by cases k <;> rfl
@[simp] theorem setFlag_stopped (s : State) (k : Flag) (v : Bool) : (s.setFlag k v).stopped = s.stopped := by cases k <;> rfl
@[simp] theorem setFlag_halted (s : State) (k : Flag) (v : Bool) : (s.setFlag k v).halted = s.halted := by cases k <;> rfl
@[simp] theorem setFlag_haltBug (s : State) (k : Flag) (v : Bool) : (s.setFlag k v).haltBug = s.haltBug := by cases k <;> rfl
@[simp] theorem setFlag_ime (s : State) (k : Flag) (v : Bool) : (s.setFlag k v).ime = s.ime := by cases k <;> rfl
@[simp] theorem setFlag_imePending (s : State) (k : Flag) (v : Bool) : (s.setFlag k v).imePending = s.imePending := by cases k <;> rfl
@[simp] theorem setFlag_mem (s : State) (k : Flag) (v : Bool) : (s.setFlag k v).mem = s.mem := by cases k <;> rfl

/-! ### `writeF` -/

@[simp] theorem writeF_a (s : State) (v : Byte) : (s.writeF v).a = s.a := rfl
@[simp] theorem writeF_b (s : State) (v : Byte) : (s.writeF v).b = s.b := rfl
@[simp] theorem writeF_c (s : State) (v : Byte) : (s.writeF v).c = s.c := rfl
@[simp] theorem writeF_d (s : State) (v : Byte) : (s.writeF v).d = s.d := rfl
@[simp] theorem writeF_e (s : State) (v : Byte) : (s.writeF v).e = s.e := rfl
@[simp] theorem writeF_h (s : State) (v : Byte) : (s.writeF v).h = s.h := rfl
@[simp] theorem writeF_l (s : State) (v : Byte) : (s.writeF v).l = s.l := rfl
@[simp] theorem writeF_sp (s : State) (v : Byte) : (s.writeF v).sp = s.sp := rfl
@[simp] theorem writeF_pc (s : State) (v : Byte) : (s.writeF v).pc = s.pc := rfl
@[simp] theorem writeF_opcode (s : State) (v : Byte) : (s.writeF v).opcode = s.opcode := rfl
@[simp] theorem writeF_opcodeAddr (s : State) (v : Byte) : (s.writeF v).opcodeAddr = s.opcodeAddr := rfl
@[simp] theorem writeF_remaining (s : State) (v : Byte) : (s.writeF v).remaining = s.remaining := rfl
@[simp] theorem writeF_total (s : State) (v : Byte) : (s.writeF v).total = s.total := rfl
@[simp] theorem writeF_stopped (s : State) (v : Byte) : (s.writeF v).stopped = s.stopped := rfl
@[simp] theorem writeF_halted (s : State) (v : Byte) : (s.writeF v).halted = s.halted := rfl
@[simp] theorem writeF_haltBug (s : State) (v : Byte) : (s.writeF v).haltBug = s.haltBug := rfl
@[simp] theorem writeF_ime (s : State) (v : Byte) : (s.writeF v).ime = s.ime := rfl
@[simp] theorem writeF_imePending (s : State) (v : Byte) : (s.writeF v).imePending = s.imePending := rfl
@[simp] theorem writeF_mem (s : State) (v : Byte) : (s.writeF v).mem = s.mem := rfl

/-! ### `writeByte` -/

@[simp] theorem writeByte_a (s : State) (addr : Word) (v : Byte) : (s.writeByte addr v).a = s.a := rfl
@[simp] theorem writeByte_f (s : State) (addr : Word) (v : Byte) : (s.writeByte addr v).f = s.f := rfl
@[simp] theorem writeByte_b (s : State) (addr : Word) (v : Byte) : (s.writeByte addr v).b = s.b := rfl
@[simp] theorem writeByte_c (s : State) (addr : Word) (v : Byte) : (s.writeByte addr v).c = s.c := rfl
@[simp] theorem writeByte_d (s : State) (addr : Word) (v : Byte) : (s.writeByte addr v).d = s.d := rfl
@[simp] theorem writeByte_e (s : State) (addr : Word) (v : Byte) : (s.writeByte addr v).e = s.e := rfl
@[simp] theorem writeByte_h (s : State) (addr : Word) (v : Byte) : (s.writeByte addr v).h = s.h := rfl
@[simp] theorem writeByte_l (s : State) (addr : Word) (v : Byte) : (s.writeByte addr v).l = s.l := rfl
@[simp] theorem writeByte_sp (s : State) (addr : Word) (v : Byte) : (s.writeByte addr v).sp = s.sp := rfl
@[simp] theorem writeByte_pc (s : State) (addr : Word) (v : Byte) : (s.writeByte addr v).pc = s.pc := rfl
@[simp] theorem writeByte_opcode (s : State) (addr : Word) (v : Byte) : (s.writeByte addr v).opcode = s.opcode := rfl
@[simp] theorem writeByte_opcodeAddr (s : State) (addr : Word) (v : Byte) : (s.writeByte addr v).opcodeAddr = s.opcodeAddr := rfl
@[simp] theorem writeByte_remaining (s : State) (addr : Word) (v : Byte) : (s.writeByte addr v).remaining = s.remaining := rfl
@[simp] theorem writeByte_total (s : State) (addr : Word) (v : Byte) : (s.writeByte addr v).total = s.total := rfl
@[simp] theorem writeByte_stopped (s : State) (addr : Word) (v : Byte) : (s.writeByte addr v).stopped = s.stopped := rfl
@[simp] theorem writeByte_halted (s : State) (addr : Word) (v : Byte) : (s.writeByte addr v).halted = s.halted := rfl
@[simp] theorem writeByte_haltBug (s : State) (addr : Word) (v : Byte) : (s.writeByte addr v).haltBug = s.haltBug := rfl
@[simp] theorem writeByte_ime (s : State) (addr : Word) (v : Byte) : (s.writeByte addr v).ime = s.ime := rfl
@[simp] theorem writeByte_imePending (s : State) (addr : Word) (v : Byte) : (s.writeByte addr v).imePending = s.imePending := rfl

/-! ### `modifyByte` -/

@[simp] theorem modifyByte_a (s : State) (addr : Word) (g : Byte → Byte) : (s.modifyByte addr g).a = s.a := rfl
@[simp] theorem modifyByte_f (s : State) (addr : Word) (g : Byte → Byte) : (s.modifyByte addr g).f = s.f := rfl
@[simp] theorem modifyByte_b (s : State) (addr : Word) (g : Byte → Byte) : (s.modifyByte addr g).b = s.b := rfl
@[simp] theorem modifyByte_c (s : State) (addr : Word) (g : Byte → Byte) : (s.modifyByte addr g).c = s.c := rfl
@[simp] theorem modifyByte_d (s : State) (addr : Word) (g : Byte → Byte) : (s.modifyByte addr g).d = s.d := rfl
@[simp] theorem modifyByte_e (s : State) (addr : Word) (g : Byte → Byte) : (s.modifyByte addr g).e = s.e := rfl
@[simp] theorem modifyByte_h (s : State) (addr : Word) (g : Byte → Byte) : (s.modifyByte addr g).h = s.h := rfl
@[simp] theorem modifyByte_l (s : State) (addr : Word) (g : Byte → Byte) : (s.modifyByte addr g).l = s.l := rfl
@[simp] theorem modifyByte_sp (s : State) (addr : Word) (g : Byte → Byte) : (s.modifyByte addr g).sp = s.sp := rfl
@[simp] theorem modifyByte_pc (s : State) (addr : Word) (g : Byte → Byte) : (s.modifyByte addr g).pc = s.pc := rfl
@[simp] theorem modifyByte_opcode (s : State) (addr : Word) (g : Byte → Byte) : (s.modifyByte addr g).opcode = s.opcode := rfl
@[simp] theorem modifyByte_opcodeAddr (s : State) (addr : Word) (g : Byte → Byte) : (s.modifyByte addr g).opcodeAddr = s.opcodeAddr := rfl
@[simp] theorem modifyByte_remaining (s : State) (addr : Word) (g : Byte → Byte) : (s.modifyByte addr g).remaining = s.remaining := rfl
@[simp] theorem modifyByte_total (s : State) (addr : Word) (g : Byte → Byte) : (s.modifyByte addr g).total = s.total := rfl
@[simp] theorem modifyByte_stopped (s : State) (addr : Word) (g : Byte → Byte) : (s.modifyByte addr g).stopped = s.stopped := rfl
@[simp] theorem modifyByte_halted (s : State) (addr : Word) (g : Byte → Byte) : (s.modifyByte addr g).halted = s.halted := rfl
@[simp] theorem modifyByte_haltBug (s : State) (addr : Word) (g : Byte → Byte) : (s.modifyByte addr g).haltBug = s.haltBug := rfl
@[simp] theorem modifyByte_ime (s : State) (addr : Word) (g : Byte → Byte) : (s.modifyByte addr g).ime = s.ime := rfl
@[simp] theorem modifyByte_imePending (s : State) (addr : Word) (g : Byte → Byte) : (s.modifyByte addr g).imePending = s.imePending := rfl

/-! ### `setHL` -/

@[simp] theorem setHL_a (s : State) (v : Word) : (s.setHL v).a = s.a := rfl
@[simp] theorem setHL_f (s : State) (v : Word) : (s.setHL v).f = s.f := rfl
@[simp] theorem setHL_b (s : State) (v : Word) : (s.setHL v).b = s.b := rfl
@[simp] theorem setHL_c (s : State) (v : Word) : (s.setHL v).c = s.c := rfl
@[simp] theorem setHL_d (s : State) (v : Word) : (s.setHL v).d = s.d := rfl
@[simp] theorem setHL_e (s : State) (v : Word) : (s.setHL v).e = s.e := rfl
@[simp] theorem setHL_sp (s : State) (v : Word) : (s.setHL v).sp = s.sp := rfl
@[simp] theorem setHL_pc (s : State) (v : Word) : (s.setHL v).pc = s.pc := rfl
@[simp] theorem setHL_opcode (s : State) (v : Word) : (s.setHL v).opcode = s.opcode := rfl
@[simp] theorem setHL_opcodeAddr (s : State) (v : Word) : (s.setHL v).opcodeAddr = s.opcodeAddr := rfl
@[simp] theorem setHL_remaining (s : State) (v : Word) : (s.setHL v).remaining = s.remaining := rfl
@[simp] theorem setHL_total (s : State) (v : Word) : (s.setHL v).total = s.total := rfl
@[simp] theorem setHL_stopped (s : State) (v : Word) : (s.setHL v).stopped = s.stopped := rfl
@[simp] theorem setHL_halted (s : State) (v : Word) : (s.setHL v).halted = s.halted := rfl
@[simp] theorem setHL_haltBug (s : State) (v : Word) : (s.setHL v).haltBug = s.haltBug := rfl
@[simp] theorem setHL_ime (s : State) (v : Word) : (s.setHL v).ime = s.ime := rfl
@[simp] theorem setHL_imePending (s : State) (v : Word) : (s.setHL v).imePending = s.imePending := rfl
@[simp] theorem setHL_mem (s : State) (v : Word) : (s.setHL v).mem = s.mem := rfl

/-! ### `setPair` -/

@[simp] theorem setPair_a (s : State) (p : Pair) (v : Word) : (s.setPair p v).a = s.a := by cases p <;> rfl
@[simp] theorem setPair_f (s : State) (p : Pair) (v : Word) : (s.setPair p v).f = s.f := by cases p <;> rfl
@[simp] theorem setPair_pc (s : State) (p : Pair) (v : Word) : (s.setPair p v).pc = s.pc := by cases p <;> rfl
@[simp] theorem setPair_opcode (s : State) (p : Pair) (v : Word) : (s.setPair p v).opcode = s.opcode := by cases p <;> rfl
@[simp] theorem setPair_opcodeAddr (s : State) (p : Pair) (v : Word) : (s.setPair p v).opcodeAddr = s.opcodeAddr := by cases p <;> rfl
@[simp] theorem setPair_remaining (s : State) (p : Pair) (v : Word) : (s.setPair p v).remaining = s.remaining := by cases p <;> rfl
@[simp] theorem setPair_total (s : State) (p : Pair) (v : Word) : (s.setPair p v).total = s.total := by cases p <;> rfl
@[simp] theorem setPair_stopped (s : State) (p : Pair) (v : Word) : (s.setPair p v).stopped = s.stopped := by cases p <;> rfl
@[simp] theorem setPair_halted (s : State) (p : Pair) (v : Word) : (s.setPair p v).halted = s.halted := by cases p <;> rfl
@[simp] theorem setPair_haltBug (s : State) (p : Pair) (v : Word) : (s.setPair p v).haltBug = s.haltBug := by cases p <;> rfl
@[simp] theorem setPair_ime (s : State) (p : Pair) (v : Word) : (s.setPair p v).ime = s.ime := by cases p <;> rfl
@[simp] theorem setPair_imePending (s : State) (p : Pair) (v : Word) : (s.setPair p v).imePending = s.imePending := by cases p <;> rfl
@[simp] theorem setPair_mem (s : State) (p : Pair) (v : Word) : (s.setPair p v).mem = s.mem := by cases p <;> rfl

/-! ### `setStackPair` -/

@[simp] theorem setStackPair_sp (s : State) (q : StackPair) (v : Word) : (s.setStackPair q v).sp = s.sp := by cases q <;> rfl
@[simp] theorem setStackPair_pc (s : State) (q : StackPair) (v : Word) : (s.setStackPair q v).pc = s.pc := by cases q <;> rfl
@[simp] theorem setStackPair_opcode (s : State) (q : StackPair) (v : Word) : (s.setStackPair q v).opcode = s.opcode := by cases q <;> rfl
@[simp] theorem setStackPair_opcodeAddr (s : State) (q : StackPair) (v : Word) : (s.setStackPair q v).opcodeAddr = s.opcodeAddr := by cases q <;> rfl
@[simp] theorem setStackPair_remaining (s : State) (q : StackPair) (v : Word) : (s.setStackPair q v).remaining = s.remaining := by cases q <;> rfl
@[simp] theorem setStackPair_total (s : State) (q : StackPair) (v : Word) : (s.setStackPair q v).total = s.total := by cases q <;> rfl
@[simp] theorem setStackPair_stopped (s : State) (q : StackPair) (v : Word) : (s.setStackPair q v).stopped = s.stopped := by cases q <;> rfl
@[simp] theorem setStackPair_halted (s : State) (q : StackPair) (v : Word) : (s.setStackPair q v).halted = s.halted := by cases q <;> rfl
@[simp] theorem setStackPair_haltBug (s : State) (q : StackPair) (v : Word) : (s.setStackPair q v).haltBug = s.haltBug := by cases q <;> rfl
@[simp] theorem setStackPair_ime (s : State) (q : StackPair) (v : Word) : (s.setStackPair q v).ime = s.ime := by cases q <;> rfl
@[simp] theorem setStackPair_imePending (s : State) (q : StackPair) (v : Word) : (s.setStackPair q v).imePending = s.imePending := by cases q <;> rfl
@[simp] theorem setStackPair_mem (s : State) (q : StackPair) (v : Word) : (s.setStackPair q v).mem = s.mem := by cases q <;> rfl

/-! ### `writeOperand` -/

@[simp] theorem writeOperand_f (s : State) (o : Operand8) (v : Byte) : (s.writeOperand o v).f = s.f := by cases o <;> simp [writeOperand]
@[simp] theorem writeOperand_sp (s : State) (o : Operand8) (v : Byte) : (s.writeOperand o v).sp = s.sp := by cases o <;> simp [writeOperand]
@[simp] theorem writeOperand_pc (s : State) (o : Operand8) (v : Byte) : (s.writeOperand o v).pc = s.pc := by cases o <;> simp [writeOperand]
@[simp] theorem writeOperand_opcode (s : State) (o : Operand8) (v : Byte) : (s.writeOperand o v).opcode = s.opcode := by cases o <;> simp [writeOperand]
@[simp] theorem writeOperand_opcodeAddr (s : State) (o : Operand8) (v : Byte) : (s.writeOperand o v).opcodeAddr = s.opcodeAddr := by cases o <;> simp [writeOperand]
@[simp] theorem writeOperand_remaining (s : State) (o : Operand8) (v : Byte) : (s.writeOperand o v).remaining = s.remaining := by cases o <;> simp [writeOperand]
@[simp] theorem writeOperand_total (s : State) (o : Operand8) (v : Byte) : (s.writeOperand o v).total = s.total := by cases o <;> simp [writeOperand]
@[simp] theorem writeOperand_stopped (s : State) (o : Operand8) (v : Byte) : (s.writeOperand o v).stopped = s.stopped := by cases o <;> simp [writeOperand]
@[simp] theorem writeOperand_halted (s : State) (o : Operand8) (v : Byte) : (s.writeOperand o v).halted = s.halted := by cases o <;> simp [writeOperand]
@[simp] theorem writeOperand_haltBug (s : State) (o : Operand8) (v : Byte) : (s.writeOperand o v).haltBug = s.haltBug := by cases o <;> simp [writeOperand]
@[simp] theorem writeOperand_ime (s : State) (o : Operand8) (v : Byte) : (s.writeOperand o v).ime = s.ime := by cases o <;> simp [writeOperand]
@[simp] theorem writeOperand_imePending (s : State) (o : Operand8) (v : Byte) : (s.writeOperand o v).imePending = s.imePending := by cases o <;> simp [writeOperand]

/-! ### `addCycles` -/

@[simp] theorem addCycles_a (s : State) (n : Nat) : (s.addCycles n).a = s.a := rfl
@[simp] theorem addCycles_f (s : State) (n : Nat) : (s.addCycles n).f = s.f := rfl
@[simp] theorem addCycles_b (s : State) (n : Nat) : (s.addCycles n).b = s.b := rfl
@[simp] theorem addCycles_c (s : State) (n : Nat) : (s.addCycles n).c = s.c := rfl
@[simp] theorem addCycles_d (s : State) (n : Nat) : (s.addCycles n).d = s.d := rfl
@[simp] theorem addCycles_e (s : State) (n : Nat) : (s.addCycles n).e = s.e := rfl
@[simp] theorem addCycles_h (s : State) (n : Nat) : (s.addCycles n).h = s.h := rfl
@[simp] theorem addCycles_l (s : State) (n : Nat) : (s.addCycles n).l = s.l := rfl
@[simp] theorem addCycles_sp (s : State) (n : Nat) : (s.addCycles n).sp = s.sp := rfl
@[simp] theorem addCycles_pc (s : State) (n : Nat) : (s.addCycles n).pc = s.pc := rfl
@[simp] theorem addCycles_opcode (s : State) (n : Nat) : (s.addCycles n).opcode = s.opcode := rfl
@[simp] theorem addCycles_opcodeAddr (s : State) (n : Nat) : (s.addCycles n).opcodeAddr = s.opcodeAddr := rfl
@[simp] theorem addCycles_total (s : State) (n : Nat) : (s.addCycles n).total = s.total := rfl
@[simp] theorem addCycles_stopped (s : State) (n : Nat) : (s.addCycles n).stopped = s.stopped := rfl
@[simp] theorem addCycles_halted (s : State) (n : Nat) : (s.addCycles n).halted = s.halted := rfl
@[simp] theorem addCycles_haltBug (s : State) (n : Nat) : (s.addCycles n).haltBug = s.haltBug := rfl
@[simp] theorem addCycles_ime (s : State) (n : Nat) : (s.addCycles n).ime = s.ime := rfl
@[simp] theorem addCycles_imePending (s : State) (n : Nat) : (s.addCycles n).imePending = s.imePending := rfl
@[simp] theorem addCycles_mem (s : State) (n : Nat) : (s.addCycles n).mem = s.mem := rfl

/-! ### `jump` -/

@[simp] theorem jump_a (s : State) (target : Word) : (s.jump target).a = s.a := rfl
@[simp] theorem jump_f (s : State) (target : Word) : (s.jump target).f = s.f := rfl
@[simp] theorem jump_b (s : State) (target : Word) : (s.jump target).b = s.b := rfl
@[simp] theorem jump_c (s : State) (target : Word) : (s.jump target).c = s.c := rfl
@[simp] theorem jump_d (s : State) (target : Word) : (s.jump target).d = s.d := rfl
@[simp] theorem jump_e (s : State) (target : Word) : (s.jump target).e = s.e := rfl
@[simp] theorem jump_h (s : State) (target : Word) : (s.jump target).h = s.h := rfl
@[simp] theorem jump_l (s : State) (target : Word) : (s.jump target).l = s.l := rfl
@[simp] theorem jump_sp (s : State) (target : Word) : (s.jump target).sp = s.sp := rfl
@[simp] theorem jump_opcode (s : State) (target : Word) : (s.jump target).opcode = s.opcode := rfl
@[simp] theorem jump_opcodeAddr (s : State) (target : Word) : (s.jump target).opcodeAddr = s.opcodeAddr := rfl
@[simp] theorem jump_remaining (s : State) (target : Word) : (s.jump target).remaining = s.remaining := rfl
@[simp] theorem jump_total (s : State) (target : Word) : (s.jump target).total = s.total := rfl
@[simp] theorem jump_stopped (s : State) (target : Word) : (s.jump target).stopped = s.stopped := rfl
@[simp] theorem jump_halted (s : State) (target : Word) : (s.jump target).halted = s.halted := rfl
@[simp] theorem jump_haltBug (s : State) (target : Word) : (s.jump target).haltBug = s.haltBug := rfl
@[simp] theorem jump_ime (s : State) (target : Word) : (s.jump target).ime = s.ime := rfl
@[simp] theorem jump_imePending (s : State) (target : Word) : (s.jump target).imePending = s.imePending := rfl
@[simp] theorem jump_mem (s : State) (target : Word) : (s.jump target).mem = s.mem := rfl

/-! ### `push16` -/

@[simp] theorem push16_a (s : State) (v : Word) : (s.push16 v).a = s.a := by simp [push16]
@[simp] theorem push16_f (s : State) (v : Word) : (s.push16 v).f = s.f := by simp [push16]
@[simp] theorem push16_b (s : State) (v : Word) : (s.push16 v).b = s.b := by simp [push16]
@[simp] theorem push16_c (s : State) (v : Word) : (s.push16 v).c = s.c := by simp [push16]
@[simp] theorem push16_d (s : State) (v : Word) : (s.push16 v).d = s.d := by simp [push16]
@[simp] theorem push16_e (s : State) (v : Word) : (s.push16 v).e = s.e := by simp [push16]
@[simp] theorem push16_h (s : State) (v : Word) : (s.push16 v).h = s.h := by simp [push16]
@[simp] theorem push16_l (s : State) (v : Word) : (s.push16 v).l = s.l := by simp [push16]
@[simp] theorem push16_pc (s : State) (v : Word) : (s.push16 v).pc = s.pc := by simp [push16]
@[simp] theorem push16_opcode (s : State) (v : Word) : (s.push16 v).opcode = s.opcode := by simp [push16]
@[simp] theorem push16_opcodeAddr (s : State) (v : Word) : (s.push16 v).opcodeAddr = s.opcodeAddr := by simp [push16]
@[simp] theorem push16_remaining (s : State) (v : Word) : (s.push16 v).remaining = s.remaining := by simp [push16]
@[simp] theorem push16_total (s : State) (v : Word) : (s.push16 v).total = s.total := by simp [push16]
@[simp] theorem push16_stopped (s : State) (v : Word) : (s.push16 v).stopped = s.stopped := by simp [push16]
@[simp] theorem push16_halted (s : State) (v : Word) : (s.push16 v).halted = s.halted := by simp [push16]
@[simp] theorem push16_haltBug (s : State) (v : Word) : (s.push16 v).haltBug = s.haltBug := by simp [push16]
@[simp] theorem push16_ime (s : State) (v : Word) : (s.push16 v).ime = s.ime := by simp [push16]
@[simp] theorem push16_imePending (s : State) (v : Word) : (s.push16 v).imePending = s.imePending := by simp [push16]

/-! ### `dropTop` -/

@[simp] theorem dropTop_a (s : State)  : (s.dropTop).a = s.a := rfl
@[simp] theorem dropTop_f (s : State)  : (s.dropTop).f = s.f := rfl
@[simp] theorem dropTop_b (s : State)  : (s.dropTop).b = s.b := rfl
@[simp] theorem dropTop_c (s : State)  : (s.dropTop).c = s.c := rfl
@[simp] theorem dropTop_d (s : State)  : (s.dropTop).d = s.d := rfl
@[simp] theorem dropTop_e (s : State)  : (s.dropTop).e = s.e := rfl
@[simp] theorem dropTop_h (s : State)  : (s.dropTop).h = s.h := rfl
@[simp] theorem dropTop_l (s : State)  : (s.dropTop).l = s.l := rfl
@[simp] theorem dropTop_pc (s : State)  : (s.dropTop).pc = s.pc := rfl
@[simp] theorem dropTop_opcode (s : State)  : (s.dropTop).opcode = s.opcode := rfl
@[simp] theorem dropTop_opcodeAddr (s : State)  : (s.dropTop).opcodeAddr = s.opcodeAddr := rfl
@[simp] theorem dropTop_remaining (s : State)  : (s.dropTop).remaining = s.remaining := rfl
@[simp] theorem dropTop_total (s : State)  : (s.dropTop).total = s.total := rfl
@[simp] theorem dropTop_stopped (s : State)  : (s.dropTop).stopped = s.stopped := rfl
@[simp] theorem dropTop_halted (s : State)  : (s.dropTop).halted = s.halted := rfl
@[simp] theorem dropTop_haltBug (s : State)  : (s.dropTop).haltBug = s.haltBug := rfl
@[simp] theorem dropTop_ime (s : State)  : (s.dropTop).ime = s.ime := rfl
@[simp] theorem dropTop_imePending (s : State)  : (s.dropTop).imePending = s.imePending := rfl
@[simp] theorem dropTop_mem (s : State)  : (s.dropTop).mem = s.mem := rfl

/-! ### `call` -/

@[simp] theorem call_a (s : State) (target : Word) : (s.call target).a = s.a := by simp [call]
@[simp] theorem call_f (s : State) (target : Word) : (s.call target).f = s.f := by simp [call]
@[simp] theorem call_b (s : State) (target : Word) : (s.call target).b = s.b := by simp [call]
@[simp] theorem call_c (s : State) (target : Word) : (s.call target).c = s.c := by simp [call]
@[simp] theorem call_d (s : State) (target : Word) : (s.call target).d = s.d := by simp [call]
@[simp] theorem call_e (s : State) (target : Word) : (s.call target).e = s.e := by simp [call]
@[simp] theorem call_h (s : State) (target : Word) : (s.call target).h = s.h := by simp [call]
@[simp] theorem call_l (s : State) (target : Word) : (s.call target).l = s.l := by simp [call]
@[simp] theorem call_opcode (s : State) (target : Word) : (s.call target).opcode = s.opcode := by simp [call]
@[simp] theorem call_opcodeAddr (s : State) (target : Word) : (s.call target).opcodeAddr = s.opcodeAddr := by simp [call]
@[simp] theorem call_remaining (s : State) (target : Word) : (s.call target).remaining = s.remaining := by simp [call]
@[simp] theorem call_total (s : State) (target : Word) : (s.call target).total = s.total := by simp [call]
@[simp] theorem call_stopped (s : State) (target : Word) : (s.call target).stopped = s.stopped := by simp [call]
@[simp] theorem call_halted (s : State) (target : Word) : (s.call target).halted = s.halted := by simp [call]
@[simp] theorem call_haltBug (s : State) (target : Word) : (s.call target).haltBug = s.haltBug := by simp [call]
@[simp] theorem call_ime (s : State) (target : Word) : (s.call target).ime = s.ime := by simp [call]
@[simp] theorem call_imePending (s : State) (target : Word) : (s.call target).imePending = s.imePending := by simp [call]

/-! ### `popPc` -/

@[simp] theorem popPc_a (s : State)  : (s.popPc).a = s.a := by simp [popPc]
@[simp] theorem popPc_f (s : State)  : (s.popPc).f = s.f := by simp [popPc]
@[simp] theorem popPc_b (s : State)  : (s.popPc).b = s.b := by simp [popPc]
@[simp] theorem popPc_c (s : State)  : (s.popPc).c = s.c := by simp [popPc]
@[simp] theorem popPc_d (s : State)  : (s.popPc).d = s.d := by simp [popPc]
@[simp] theorem popPc_e (s : State)  : (s.popPc).e = s.e := by simp [popPc]
@[simp] theorem popPc_h (s : State)  : (s.popPc).h = s.h := by simp [popPc]
@[simp] theorem popPc_l (s : State)  : (s.popPc).l = s.l := by simp [popPc]
@[simp] theorem popPc_opcode (s : State)  : (s.popPc).opcode = s.opcode := by simp [popPc]
@[simp] theorem popPc_opcodeAddr (s : State)  : (s.popPc).opcodeAddr = s.opcodeAddr := by simp [popPc]
@[simp] theorem popPc_remaining (s : State)  : (s.popPc).remaining = s.remaining := by simp [popPc]
@[simp] theorem popPc_total (s : State)  : (s.popPc).total = s.total := by simp [popPc]
@[simp] theorem popPc_stopped (s : State)  : (s.popPc).stopped = s.stopped := by simp [popPc]
@[simp] theorem popPc_halted (s : State)  : (s.popPc).halted = s.halted := by simp [popPc]
@[simp] theorem popPc_haltBug (s : State)  : (s.popPc).haltBug = s.haltBug := by simp [popPc]
@[simp] theorem popPc_ime (s : State)  : (s.popPc).ime = s.ime := by simp [popPc]
@[simp] theorem popPc_imePending (s : State)  : (s.popPc).imePending = s.imePending := by simp [popPc]
@[simp] theorem popPc_mem (s : State)  : (s.popPc).mem = s.mem := by simp [popPc]

/-! ### `chargeCost` -/

@[simp] theorem chargeCost_a (s : State) (p : Params) (i : Instr) : (s.chargeCost p i).a = s.a := rfl
@[simp] theorem chargeCost_f (s : State) (p : Params) (i : Instr) : (s.chargeCost p i).f = s.f := rfl
@[simp] theorem chargeCost_b (s : State) (p : Params) (i : Instr) : (s.chargeCost p i).b = s.b := rfl
@[simp] theorem chargeCost_c (s : State) (p : Params) (i : Instr) : (s.chargeCost p i).c = s.c := rfl
@[simp] theorem chargeCost_d (s : State) (p : Params) (i : Instr) : (s.chargeCost p i).d = s.d := rfl
@[simp] theorem chargeCost_e (s : State) (p : Params) (i : Instr) : (s.chargeCost p i).e = s.e := rfl
@[simp] theorem chargeCost_h (s : State) (p : Params) (i : Instr) : (s.chargeCost p i).h = s.h := rfl
@[simp] theorem chargeCost_l (s : State) (p : Params) (i : Instr) : (s.chargeCost p i).l = s.l := rfl
@[simp] theorem chargeCost_sp (s : State) (p : Params) (i : Instr) : (s.chargeCost p i).sp = s.sp := rfl
@[simp] theorem chargeCost_pc (s : State) (p : Params) (i : Instr) : (s.chargeCost p i).pc = s.pc := rfl
@[simp] theorem chargeCost_opcode (s : State) (p : Params) (i : Instr) : (s.chargeCost p i).opcode = s.opcode := rfl
@[simp] theorem chargeCost_opcodeAddr (s : State) (p : Params) (i : Instr) : (s.chargeCost p i).opcodeAddr = s.opcodeAddr := rfl
@[simp] theorem chargeCost_total (s : State) (p : Params) (i : Instr) : (s.chargeCost p i).total = s.total := rfl
@[simp] theorem chargeCost_stopped (s : State) (p : Params) (i : Instr) : (s.chargeCost p i).stopped = s.stopped := rfl
@[simp] theorem chargeCost_halted (s : State) (p : Params) (i : Instr) : (s.chargeCost p i).halted = s.halted := rfl
@[simp] theorem chargeCost_haltBug (s : State) (p : Params) (i : Instr) : (s.chargeCost p i).haltBug = s.haltBug := rfl
@[simp] theorem chargeCost_ime (s : State) (p : Params) (i : Instr) : (s.chargeCost p i).ime = s.ime := rfl
@[simp] theorem chargeCost_imePending (s : State) (p : Params) (i : Instr) : (s.chargeCost p i).imePending = s.imePending := rfl
@[simp] theorem chargeCost_mem (s : State) (p : Params) (i : Instr) : (s.chargeCost p i).mem = s.mem := rfl

/-! ### `afterOpcodeFetch` -/

@[simp] theorem afterOpcodeFetch_a (s : State) : s.afterOpcodeFetch.a = s.a := rfl
@[simp] theorem afterOpcodeFetch_f (s : State) : s.afterOpcodeFetch.f = s.f := rfl
@[simp] theorem afterOpcodeFetch_b (s : State) : s.afterOpcodeFetch.b = s.b := rfl
@[simp] theorem afterOpcodeFetch_c (s : State) : s.afterOpcodeFetch.c = s.c := rfl
@[simp] theorem afterOpcodeFetch_d (s : State) : s.afterOpcodeFetch.d = s.d := rfl
@[simp] theorem afterOpcodeFetch_e (s : State) : s.afterOpcodeFetch.e = s.e := rfl
@[simp] theorem afterOpcodeFetch_h (s : State) : s.afterOpcodeFetch.h = s.h := rfl
@[simp] theorem afterOpcodeFetch_l (s : State) : s.afterOpcodeFetch.l = s.l := rfl
@[simp] theorem afterOpcodeFetch_sp (s : State) : s.afterOpcodeFetch.sp = s.sp := rfl
@[simp] theorem afterOpcodeFetch_remaining (s : State) : s.afterOpcodeFetch.remaining = s.remaining := rfl
@[simp] theorem afterOpcodeFetch_total (s : State) : s.afterOpcodeFetch.total = s.total := rfl
@[simp] theorem afterOpcodeFetch_stopped (s : State) : s.afterOpcodeFetch.stopped = s.stopped := rfl
@[simp] theorem afterOpcodeFetch_halted (s : State) : s.afterOpcodeFetch.halted = s.halted := rfl
@[simp] theorem afterOpcodeFetch_ime (s : State) : s.afterOpcodeFetch.ime = s.ime := rfl
@[simp] theorem afterOpcodeFetch_imePending (s : State) : s.afterOpcodeFetch.imePending = s.imePending := rfl
@[simp] theorem afterOpcodeFetch_mem (s : State) : s.afterOpcodeFetch.mem = s.mem := rfl
@[simp] theorem afterOpcodeFetch_opcode (s : State) : s.afterOpcodeFetch.opcode = s.readByte s.pc := rfl
@[simp] theorem afterOpcodeFetch_opcodeAddr (s : State) : s.afterOpcodeFetch.opcodeAddr = s.pc := rfl
@[simp] theorem afterOpcodeFetch_haltBug (s : State) : s.afterOpcodeFetch.haltBug = false := rfl
@[simp] theorem afterOpcodeFetch_pc (s : State) : s.afterOpcodeFetch.pc = s.operandAddr := rfl

/-! ### `afterFetch` -/

@[simp] theorem afterFetch_a (s : State) (n : StopLength) : (s.afterFetch n).a = s.a := rfl
@[simp] theorem afterFetch_f (s : State) (n : StopLength) : (s.afterFetch n).f = s.f := rfl
@[simp] theorem afterFetch_b (s : State) (n : StopLength) : (s.afterFetch n).b = s.b := rfl
@[simp] theorem afterFetch_c (s : State) (n : StopLength) : (s.afterFetch n).c = s.c := rfl
@[simp] theorem afterFetch_d (s : State) (n : StopLength) : (s.afterFetch n).d = s.d := rfl
@[simp] theorem afterFetch_e (s : State) (n : StopLength) : (s.afterFetch n).e = s.e := rfl
@[simp] theorem afterFetch_h (s : State) (n : StopLength) : (s.afterFetch n).h = s.h := rfl
@[simp] theorem afterFetch_l (s : State) (n : StopLength) : (s.afterFetch n).l = s.l := rfl
@[simp] theorem afterFetch_sp (s : State) (n : StopLength) : (s.afterFetch n).sp = s.sp := rfl
@[simp] theorem afterFetch_remaining (s : State) (n : StopLength) : (s.afterFetch n).remaining = s.remaining := rfl
@[simp] theorem afterFetch_total (s : State) (n : StopLength) : (s.afterFetch n).total = s.total := rfl
@[simp] theorem afterFetch_stopped (s : State) (n : StopLength) : (s.afterFetch n).stopped = s.stopped := rfl
@[simp] theorem afterFetch_halted (s : State) (n : StopLength) : (s.afterFetch n).halted = s.halted := rfl
@[simp] theorem afterFetch_ime (s : State) (n : StopLength) : (s.afterFetch n).ime = s.ime := rfl
@[simp] theorem afterFetch_imePending (s : State) (n : StopLength) : (s.afterFetch n).imePending = s.imePending := rfl
@[simp] theorem afterFetch_mem (s : State) (n : StopLength) : (s.afterFetch n).mem = s.mem := rfl

/-! ### What each update sets -/

@[simp] theorem setReg_a (s : State) (v : Byte) : (s.setReg .a v).a = v := rfl
@[simp] theorem writeF_f (s : State) (v : Byte) : (s.writeF v).f = v &&& 0xF0 := rfl
@[simp] theorem setFlags_f (s : State) (fl : FlagBits) : (s.setFlags fl).f = fl.pack := rfl
@[simp] theorem jump_pc (s : State) (target : Word) : (s.jump target).pc = target := rfl
@[simp] theorem addCycles_remaining (s : State) (n : Nat) : (s.addCycles n).remaining = s.remaining + n := rfl
@[simp] theorem push16_sp (s : State) (v : Word) : (s.push16 v).sp = s.sp - 2 := rfl
@[simp] theorem dropTop_sp (s : State) : s.dropTop.sp = s.sp + 2 := rfl
@[simp] theorem call_pc (s : State) (target : Word) : (s.call target).pc = target := rfl
@[simp] theorem call_sp (s : State) (target : Word) : (s.call target).sp = s.sp - 2 := rfl
@[simp] theorem popPc_pc (s : State) : s.popPc.pc = s.stackTop := rfl
@[simp] theorem popPc_sp (s : State) : s.popPc.sp = s.sp + 2 := rfl
@[simp] theorem setPair_sp_sp (s : State) (v : Word) : (s.setPair .sp v).sp = v := rfl
@[simp] theorem chargeCost_remaining (s : State) (p : Params) (i : Instr) :
    (s.chargeCost p i).remaining = s.remaining + costOf p i - 1 := rfl

/-! ### Registers read back -/

@[simp] theorem getReg_a (s : State) : s.getReg .a = s.a := rfl

@[simp] theorem getReg_setReg (s : State) (r r' : Reg8) (v : Byte) :
    (s.setReg r v).getReg r' = if r' = r then v else s.getReg r' := by
  cases r <;> cases r' <;> rfl

@[simp] theorem getReg_setFlags (s : State) (fl : FlagBits) (r : Reg8) :
    (s.setFlags fl).getReg r = s.getReg r := by cases r <;> rfl
@[simp] theorem getReg_setFlag (s : State) (k : Flag) (v : Bool) (r : Reg8) :
    (s.setFlag k v).getReg r = s.getReg r := by cases k <;> cases r <;> rfl
@[simp] theorem getReg_writeByte (s : State) (addr : Word) (v : Byte) (r : Reg8) :
    (s.writeByte addr v).getReg r = s.getReg r := by cases r <;> rfl
@[simp] theorem getReg_modifyByte (s : State) (addr : Word) (g : Byte → Byte) (r : Reg8) :
    (s.modifyByte addr g).getReg r = s.getReg r := by cases r <;> rfl
@[simp] theorem getReg_addCycles (s : State) (n : Nat) (r : Reg8) :
    (s.addCycles n).getReg r = s.getReg r := by cases r <;> rfl
@[simp] theorem getReg_jump (s : State) (target : Word) (r : Reg8) :
    (s.jump target).getReg r = s.getReg r := by cases r <;> rfl
@[simp] theorem getReg_push16 (s : State) (v : Word) (r : Reg8) :
    (s.push16 v).getReg r = s.getReg r := by cases r <;> simp [getReg]
@[simp] theorem getReg_dropTop (s : State) (r : Reg8) : s.dropTop.getReg r = s.getReg r := by
  cases r <;> rfl
@[simp] theorem getReg_call (s : State) (target : Word) (r : Reg8) :
    (s.call target).getReg r = s.getReg r := by cases r <;> simp [getReg]
@[simp] theorem getReg_popPc (s : State) (r : Reg8) : s.popPc.getReg r = s.getReg r := by
  cases r <;> rfl

@[simp] theorem setReg_hl_a (s : State) (v : Byte) : (s.setReg .a v).hl = s.hl := rfl
@[simp] theorem writeByte_hl (s : State) (addr : Word) (v : Byte) : (s.writeByte addr v).hl = s.hl := rfl
@[simp] theorem setFlags_hl (s : State) (fl : FlagBits) : (s.setFlags fl).hl = s.hl := rfl

/-! ### Halves and pairs -/

theorem joinBytes_toNat (hi lo : Byte) : (joinBytes hi lo).toNat = hi.toNat * 256 + lo.toNat := by
  have := lo.isLt
  rw [joinBytes, BitVec.toNat_append, ← Nat.shiftLeft_add_eq_or_of_lt this, Nat.shiftLeft_eq]

theorem highByte_toNat (v : Word) : (highByte v).toNat = v.toNat / 256 := by
  have := v.isLt
  simp only [highByte, BitVec.extractLsb'_toNat, Nat.shiftRight_eq_div_pow]
  omega

theorem lowByte_toNat (v : Word) : (lowByte v).toNat = v.toNat % 256 := by
  simp [lowByte, BitVec.extractLsb'_toNat]

@[simp] theorem joinBytes_high_low (v : Word) : joinBytes (highByte v) (lowByte v) = v := by
  apply BitVec.eq_of_toNat_eq
  rw [joinBytes_toNat, highByte_toNat, lowByte_toNat]
  omega

@[simp] theorem highByte_join (hi lo : Byte) : highByte (joinBytes hi lo) = hi := by
  have := lo.isLt
  apply BitVec.eq_of_toNat_eq
  rw [highByte_toNat, joinBytes_toNat]
  omega

@[simp] theorem lowByte_join (hi lo : Byte) : lowByte (joinBytes hi lo) = lo := by
  have := lo.isLt
  apply BitVec.eq_of_toNat_eq
  rw [lowByte_toNat, joinBytes_toNat]
  omega

@[simp] theorem getPair_setPair (s : State) (p : Pair) (v : Word) : (s.setPair p v).getPair p = v := by
  cases p <;> simp [setPair, getPair]

@[simp] theorem setHL_hl (s : State) (v : Word) : (s.setHL v).hl = v := by simp [setHL, hl]

/-! ### Flags read back -/

/-- F written from four flags holds them at bits 7 to 4, and zeros below (`10_state.md` R22, R23). -/
theorem pack_bits (fl : FlagBits) : fl.pack.getLsbD 7 = fl.z ∧ fl.pack.getLsbD 6 = fl.n ∧
    fl.pack.getLsbD 5 = fl.h ∧ fl.pack.getLsbD 4 = fl.c ∧ fl.pack &&& 15#8 = 0#8 := by
  rcases fl with ⟨z, n, h, c⟩
  cases z <;> cases n <;> cases h <;> cases c <;> decide

@[simp] theorem pack_mask (fl : FlagBits) : fl.pack &&& 0xF0 = fl.pack := by
  rcases fl with ⟨z, n, h, c⟩
  cases z <;> cases n <;> cases h <;> cases c <;> decide

@[simp] theorem setFlags_setFlags (s : State) (g fl : FlagBits) : (s.setFlags g).setFlags fl = s.setFlags fl := rfl
/-- A packed F has zeros in bits 3:0 (`10_state.md` R23). -/
@[simp] theorem pack_low_nibble (fl : FlagBits) : fl.pack &&& 15#8 = 0#8 := by
  rcases fl with ⟨_ | _, _ | _, _ | _, _ | _⟩ <;> decide
@[simp] theorem setFlags_flagZ (s : State) (fl : FlagBits) : (s.setFlags fl).flagZ = fl.z := (pack_bits fl).1
@[simp] theorem setFlags_flagN (s : State) (fl : FlagBits) : (s.setFlags fl).flagN = fl.n := (pack_bits fl).2.1
@[simp] theorem setFlags_flagH (s : State) (fl : FlagBits) : (s.setFlags fl).flagH = fl.h := (pack_bits fl).2.2.1
@[simp] theorem setFlags_flagC (s : State) (fl : FlagBits) : (s.setFlags fl).flagC = fl.c := (pack_bits fl).2.2.2.1
@[simp] theorem setFlags_flags (s : State) (fl : FlagBits) : (s.setFlags fl).flags = fl := by
  simp [flags]

/-- Writing one flag writes that flag and no other (R24). -/
@[simp] theorem setFlag_flags (s : State) (k : Flag) (v : Bool) : (s.setFlag k v).flags =
    match k with
    | .z => { s.flags with z := v }
    | .n => { s.flags with n := v }
    | .h => { s.flags with h := v }
    | .c => { s.flags with c := v } := by
  cases k <;> simp [setFlag]

@[simp] theorem setReg_flagZ (s : State) (r : Reg8) (v : Byte) : (s.setReg r v).flagZ = s.flagZ := by simp [flagZ]
@[simp] theorem writeByte_flagZ (s : State) (addr : Word) (v : Byte) : (s.writeByte addr v).flagZ = s.flagZ := by simp [flagZ]
@[simp] theorem writeOperand_flagZ (s : State) (o : Operand8) (v : Byte) : (s.writeOperand o v).flagZ = s.flagZ := by simp [flagZ]
@[simp] theorem setPair_flagZ (s : State) (p : Pair) (v : Word) : (s.setPair p v).flagZ = s.flagZ := by simp [flagZ]
@[simp] theorem setReg_flagN (s : State) (r : Reg8) (v : Byte) : (s.setReg r v).flagN = s.flagN := by simp [flagN]
@[simp] theorem writeByte_flagN (s : State) (addr : Word) (v : Byte) : (s.writeByte addr v).flagN = s.flagN := by simp [flagN]
@[simp] theorem writeOperand_flagN (s : State) (o : Operand8) (v : Byte) : (s.writeOperand o v).flagN = s.flagN := by simp [flagN]
@[simp] theorem setPair_flagN (s : State) (p : Pair) (v : Word) : (s.setPair p v).flagN = s.flagN := by simp [flagN]
@[simp] theorem setReg_flagH (s : State) (r : Reg8) (v : Byte) : (s.setReg r v).flagH = s.flagH := by simp [flagH]
@[simp] theorem writeByte_flagH (s : State) (addr : Word) (v : Byte) : (s.writeByte addr v).flagH = s.flagH := by simp [flagH]
@[simp] theorem writeOperand_flagH (s : State) (o : Operand8) (v : Byte) : (s.writeOperand o v).flagH = s.flagH := by simp [flagH]
@[simp] theorem setPair_flagH (s : State) (p : Pair) (v : Word) : (s.setPair p v).flagH = s.flagH := by simp [flagH]
@[simp] theorem setReg_flagC (s : State) (r : Reg8) (v : Byte) : (s.setReg r v).flagC = s.flagC := by simp [flagC]
@[simp] theorem writeByte_flagC (s : State) (addr : Word) (v : Byte) : (s.writeByte addr v).flagC = s.flagC := by simp [flagC]
@[simp] theorem writeOperand_flagC (s : State) (o : Operand8) (v : Byte) : (s.writeOperand o v).flagC = s.flagC := by simp [flagC]
@[simp] theorem setPair_flagC (s : State) (p : Pair) (v : Word) : (s.setPair p v).flagC = s.flagC := by simp [flagC]
@[simp] theorem setReg_readF (s : State) (r : Reg8) (v : Byte) : (s.setReg r v).readF = s.readF := by simp [readF]
@[simp] theorem writeByte_readF (s : State) (addr : Word) (v : Byte) : (s.writeByte addr v).readF = s.readF := by simp [readF]
@[simp] theorem writeOperand_readF (s : State) (o : Operand8) (v : Byte) : (s.writeOperand o v).readF = s.readF := by simp [readF]
@[simp] theorem setPair_readF (s : State) (p : Pair) (v : Word) : (s.setPair p v).readF = s.readF := by simp [readF]

end State

end Sys2Proof.Machine
end

