-- ==== Sys2Proof/Laws/Memory.lean ====
section
/-! SUPPORT. Memory's laws: a read after a write, a write elsewhere, and that every operation keeps the canonical form. -/

namespace Sys2Proof.Machine

/-! ## Lists of cells -/

theorem Memory.read_erase (m : Memory) (x y : Nat) :
    (m.erase x).read y = if y = x then Config.unlistedByte else m.read y := by
  induction m with
  | nil => simp [Memory.erase, Memory.read]
  | cons kv m ih =>
    obtain ⟨k, v⟩ := kv
    by_cases hk : k = x <;> by_cases hy : y = x <;> by_cases hky : k = y <;>
      simp_all [Memory.erase, Memory.read]

theorem Memory.read_insert_ne (m : Memory) {x y : Nat} (v : Byte) (h : y ≠ x) :
    (m.insert x v).read y = m.read y := by
  induction m with
  | nil => simp [Memory.insert, Memory.read, Ne.symm h]
  | cons kv m ih =>
    obtain ⟨k, w⟩ := kv
    simp only [Memory.insert]
    split <;> simp [Memory.read, Ne.symm h, ih]

theorem Memory.read_insert_erase (m : Memory) (x : Nat) (v : Byte) :
    ((m.erase x).insert x v).read x = v := by
  induction m with
  | nil => simp [Memory.erase, Memory.insert, Memory.read]
  | cons kv m ih =>
    obtain ⟨k, w⟩ := kv
    by_cases hk : k = x
    · simpa [Memory.erase, hk] using ih
    · by_cases hlt : x < k <;> simp [Memory.erase, Memory.insert, Memory.read, hk, hlt, ih]

/-- A read after a write: the byte written at that address, the old byte at every other. -/
theorem Memory.read_write (m : Memory) (x y : Nat) (v : Byte) :
    (m.write x v).read y = if y = x then v else m.read y := by
  unfold Memory.write
  split
  · rename_i hv; rw [Memory.read_erase, hv]
  · by_cases h : y = x
    · subst h; simp [Memory.read_insert_erase]
    · simp [Memory.read_insert_ne _ _ h, Memory.read_erase, h]

/-! ## The canonical form -/

theorem Memory.sortedAbove_cons (low : Int) (k : Nat) (v : Byte) (m : Memory) :
    Memory.sortedAbove low ((k, v) :: m) = true ↔
      low < k ∧ k < 65536 ∧ v ≠ Config.unlistedByte ∧ Memory.sortedAbove k m = true := by
  simp [Memory.sortedAbove, and_assoc]

theorem Memory.sortedAbove_mono {low low' : Int} {m : Memory} (h : low' ≤ low)
    (hm : Memory.sortedAbove low m = true) : Memory.sortedAbove low' m = true := by
  cases m with
  | nil => rfl
  | cons kv m =>
    rw [Memory.sortedAbove_cons] at hm ⊢
    exact ⟨by omega, hm.2⟩

theorem Memory.sortedAbove_erase (m : Memory) (low : Int) (x : Nat)
    (hm : Memory.sortedAbove low m = true) : Memory.sortedAbove low (m.erase x) = true := by
  induction m generalizing low with
  | nil => exact hm
  | cons kv m ih =>
    obtain ⟨k, v⟩ := kv
    rw [Memory.sortedAbove_cons] at hm
    by_cases hk : k = x
    · simpa [Memory.erase, hk] using ih low (Memory.sortedAbove_mono (by omega) hm.2.2.2)
    · simpa [Memory.erase, hk, Memory.sortedAbove_cons] using ⟨hm.1, hm.2.1, hm.2.2.1, ih _ hm.2.2.2⟩

theorem Memory.sortedAbove_insert_erase (m : Memory) (low : Int) (x : Nat) (v : Byte) (hx : x < 65536)
    (hlow : low < x) (hv : v ≠ Config.unlistedByte) (hm : Memory.sortedAbove low m = true) :
    Memory.sortedAbove low ((m.erase x).insert x v) = true := by
  induction m generalizing low with
  | nil => simp [Memory.erase, Memory.insert, Memory.sortedAbove, hx, hlow, hv]
  | cons kv m ih =>
    obtain ⟨k, w⟩ := kv
    rw [Memory.sortedAbove_cons] at hm
    by_cases hk : k = x
    · simpa [Memory.erase, hk] using ih low hlow (Memory.sortedAbove_mono (by omega) hm.2.2.2)
    · have hrest := Memory.sortedAbove_erase m k x hm.2.2.2
      by_cases hlt : x < k
      · simpa [Memory.erase, hk, Memory.insert, hlt, Memory.sortedAbove_cons] using
          ⟨hlow, hx, hv, hm.2.1, hm.2.2.1, hrest⟩
      · simpa [Memory.erase, hk, Memory.insert, hlt, Memory.sortedAbove_cons] using
          ⟨hm.1, hm.2.1, hm.2.2.1, ih _ (by omega) hm.2.2.2⟩

/-- A write keeps the canonical form. -/
theorem Memory.wf_write {m : Memory} {x : Nat} (v : Byte) (hx : x < 65536) (hm : m.wf = true) :
    (m.write x v).wf = true := by
  unfold Memory.write Memory.wf at *
  split
  · exact Memory.sortedAbove_erase m _ x hm
  · exact Memory.sortedAbove_insert_erase m _ x v hx (by omega) ‹_› hm

/-! ## Contents given address by address -/

theorem Memory.read_of_sortedAbove {low : Int} {m : Memory} (hm : Memory.sortedAbove low m = true) {x : Nat}
    (hx : (x : Int) ≤ low) : m.read x = Config.unlistedByte := by
  induction m generalizing low with
  | nil => rfl
  | cons kv m ih =>
    obtain ⟨k, v⟩ := kv
    rw [Memory.sortedAbove_cons] at hm
    rw [Memory.read, if_neg (by omega), ih hm.2.2.2 (by omega)]

/-- The contents below `n` go before a list that starts at `n`: the form stays canonical, and each address reads its
own byte. -/
theorem Memory.fill_spec (g : Nat → Byte) (n : Nat) (m : Memory) (hn : n ≤ 65536)
    (hm : Memory.sortedAbove (n - 1) m = true) :
    (Memory.fill g n m).wf = true ∧ ∀ x, (Memory.fill g n m).read x = if x < n then g x else m.read x := by
  induction n generalizing m with
  | zero => exact ⟨by simpa [Memory.fill, Memory.wf] using hm, fun x => by simp [Memory.fill]⟩
  | succ n ih =>
    rw [Memory.fill]
    split
    · rename_i hv
      obtain ⟨h1, h2⟩ := ih m (by omega) (Memory.sortedAbove_mono (by omega) hm)
      refine ⟨h1, fun x => ?_⟩
      rw [h2]
      by_cases hx : x < n
      · rw [if_pos hx, if_pos (by omega)]
      · rw [if_neg hx]
        split
        · obtain rfl : x = n := by omega
          rw [hv, Memory.read_of_sortedAbove hm (by omega)]
        · rfl
    · rename_i hv
      have hcons : Memory.sortedAbove (n - 1) ((n, g n) :: m) = true :=
        (Memory.sortedAbove_cons ..).2 ⟨by omega, by omega, hv, Memory.sortedAbove_mono (by omega) hm⟩
      obtain ⟨h1, h2⟩ := ih _ (by omega) hcons
      refine ⟨h1, fun x => ?_⟩
      rw [h2]
      by_cases hx : x < n
      · rw [if_pos hx, if_pos (by omega)]
      · rw [if_neg hx, Memory.read]
        by_cases hn : n = x
        · rw [if_pos hn, if_pos (by omega), hn]
        · rw [if_neg hn, if_neg (by omega)]

/-- All that `Memory.ofContents` is: canonical, and each address reads its own byte. -/
theorem Memory.ofContents_spec (mem0 : Word → Byte) :
    (Memory.ofContents mem0).wf = true ∧
      ∀ x : Nat, (Memory.ofContents mem0).read x = if x < 65536 then mem0 (BitVec.ofNat 16 x) else Config.unlistedByte := by
  unfold Memory.ofContents
  generalize hn : 65536 = n
  exact Memory.fill_spec _ n [] (by omega) rfl

/-- Memory made from contents reads as they do, at every address. -/
theorem Memory.read_ofContents (mem0 : Word → Byte) (x : Word) : (Memory.ofContents mem0).read x.toNat = mem0 x := by
  rw [(Memory.ofContents_spec mem0).2, if_pos x.isLt, BitVec.ofNat_toNat, BitVec.setWidth_eq]

theorem Memory.fill_unlisted (n : Nat) : Memory.fill (fun _ => Config.unlistedByte) n [] = [] := by
  induction n with
  | zero => rfl
  | succ n ih => rw [Memory.fill, if_pos rfl, ih]

/-- Memory whose every byte is what an unlisted address reads as lists nothing. -/
theorem Memory.ofContents_unlisted : Memory.ofContents (fun _ => Config.unlistedByte) = [] := by
  unfold Memory.ofContents
  generalize 65536 = n
  exact Memory.fill_unlisted n

/-! ## Bytes of a state -/

namespace State

/-- `MemWrite(a,1,v)` "sets `M[a] <- v` and changes nothing else" (`20_memory.md` R52). -/
theorem readByte_writeByte (s : State) (x y : Word) (v : Byte) :
    (s.writeByte x v).readByte y = if y = x then v else s.readByte y := by
  simp only [readByte, writeByte, Memory.read_write, BitVec.toNat_inj]

@[simp] theorem readByte_writeByte_self (s : State) (x : Word) (v : Byte) :
    (s.writeByte x v).readByte x = v := by simp [readByte_writeByte]

theorem readByte_writeByte_ne (s : State) {x y : Word} (v : Byte) (h : y ≠ x) :
    (s.writeByte x v).readByte y = s.readByte y := by simp [readByte_writeByte, h]

theorem readByte_modifyByte (s : State) (x y : Word) (g : Byte → Byte) :
    (s.modifyByte x g).readByte y = if y = x then g (s.readByte x) else s.readByte y :=
  readByte_writeByte _ _ _ _

/-- States with the same memory read the same bytes. -/
theorem readByte_congr {s t : State} (h : t.mem = s.mem) (x : Word) : t.readByte x = s.readByte x := by
  simp [readByte, h]

@[simp] theorem readByte_setReg (s : State) (r : Reg8) (v : Byte) (x : Word) :
    (s.setReg r v).readByte x = s.readByte x := readByte_congr (by simp) x
@[simp] theorem readByte_setFlags (s : State) (fl : FlagBits) (x : Word) :
    (s.setFlags fl).readByte x = s.readByte x := rfl
@[simp] theorem readByte_setFlag (s : State) (k : Flag) (v : Bool) (x : Word) :
    (s.setFlag k v).readByte x = s.readByte x := readByte_congr (by simp) x
@[simp] theorem readByte_setHL (s : State) (v : Word) (x : Word) :
    (s.setHL v).readByte x = s.readByte x := rfl
@[simp] theorem readByte_setPair (s : State) (p : Pair) (v : Word) (x : Word) :
    (s.setPair p v).readByte x = s.readByte x := readByte_congr (by simp) x
@[simp] theorem readByte_setStackPair (s : State) (q : StackPair) (v : Word) (x : Word) :
    (s.setStackPair q v).readByte x = s.readByte x := readByte_congr (by simp) x
@[simp] theorem readByte_addCycles (s : State) (n : Nat) (x : Word) :
    (s.addCycles n).readByte x = s.readByte x := rfl
@[simp] theorem readByte_jump (s : State) (target : Word) (x : Word) :
    (s.jump target).readByte x = s.readByte x := rfl
@[simp] theorem readByte_dropTop (s : State) (x : Word) : s.dropTop.readByte x = s.readByte x := rfl
@[simp] theorem readByte_popPc (s : State) (x : Word) : s.popPc.readByte x = s.readByte x := rfl

/-- Two addresses one apart differ, also where they wrap. -/
theorem word_sub_one_ne_sub_two (x : Word) : x - 1 ≠ x - 2 := by bv_omega

/-- The bytes after `Push16(v)`: the high byte at SP-1, the low byte at SP-2, every other unchanged (R57). -/
theorem readByte_push16 (s : State) (v x : Word) :
    (s.push16 v).readByte x =
      if x = s.sp - 2 then lowByte v else if x = s.sp - 1 then highByte v else s.readByte x := by
  have h : (s.push16 v).readByte x =
      ((s.writeByte (s.sp - 1) (highByte v)).writeByte (s.sp - 2) (lowByte v)).readByte x := rfl
  rw [h, readByte_writeByte, readByte_writeByte]

theorem readByte_call (s : State) (target x : Word) :
    (s.call target).readByte x =
      if x = s.sp - 2 then lowByte s.pc else if x = s.sp - 1 then highByte s.pc else s.readByte x := by
  simp [call, readByte_push16]

/-- `Pop16` after `Push16(v)` returns `v`. -/
@[simp] theorem stackTop_push16 (s : State) (v : Word) : (s.push16 v).stackTop = v := by
  have h : s.sp - 2 + 1 = s.sp - 1 := by bv_omega
  simp only [stackTop, readByte_push16, push16_sp, h, if_true]
  simp

/-! ### Every operation keeps the canonical form -/

theorem wf_writeByte {s : State} (x : Word) (v : Byte) (h : s.mem.wf = true) :
    (s.writeByte x v).mem.wf = true := Memory.wf_write v x.isLt h

theorem wf_modifyByte {s : State} (x : Word) (g : Byte → Byte) (h : s.mem.wf = true) :
    (s.modifyByte x g).mem.wf = true := wf_writeByte x _ h

theorem wf_push16 {s : State} (v : Word) (h : s.mem.wf = true) : (s.push16 v).mem.wf = true :=
  wf_writeByte _ _ (wf_writeByte _ _ h)

theorem wf_call {s : State} (target : Word) (h : s.mem.wf = true) : (s.call target).mem.wf = true :=
  wf_push16 s.pc h

theorem wf_writeOperand {s : State} (o : Operand8) (v : Byte) (h : s.mem.wf = true) :
    (s.writeOperand o v).mem.wf = true := by
  cases o with
  | reg r => simpa [writeOperand] using h
  | memHL => exact wf_writeByte _ _ h

theorem reset_mem_wf : State.reset.mem.wf = true := rfl

/-! ### Power-on -/

@[simp] theorem powerOn_mem (r : ResetRegs) (m : Memory) : (powerOn r m).mem = m := rfl
@[simp] theorem launch_mem (p : Params) : (launch p).mem = Memory.ofContents p.mem0 := rfl
@[simp] theorem hostReset_mem (s : State) (p : Params) : (s.hostReset p).mem = s.mem := rfl

/-- At power-on every address reads MEM0's byte (`70_reset_and_hazards.md` R270). -/
theorem readByte_launch (p : Params) (x : Word) : (launch p).readByte x = p.mem0 x :=
  Memory.read_ofContents p.mem0 x

/-- `State.reset` is power-on at the defaults. -/
theorem launch_engineParams : launch engineParams = State.reset :=
  congrArg (powerOn Config.resetRegs) Memory.ofContents_unlisted

end State

end Sys2Proof.Machine
end

