-- ==== Sys2Proof/Laws/Exec.lean ====
section
/-! SUPPORT. What `exec` does, one lemma a family: later proofs cite these instead of unfolding `exec`. -/

namespace Sys2Proof.Machine

@[simp] theorem exec_loadInstr_reg (r : Reg8) (src : Operand8) (st : State) :
    exec (loadInstr (.reg r) src) st = loadOperand (.reg r) src st := by
  cases r <;> (cases src with
  | reg r => cases r <;> rfl
  | memHL => rfl)

@[simp] theorem exec_loadInstr_memHL_reg (r : Reg8) (st : State) :
    exec (loadInstr .memHL (.reg r)) st = loadOperand .memHL (.reg r) st := by
  cases r <;> rfl

@[simp] theorem exec_loadInstr_memHL_memHL  (st : State) :
    exec (loadInstr .memHL .memHL) st = execHalt st := by
  rfl

@[simp] theorem exec_loadImmInstr (d : Operand8) (n : Byte) (st : State) :
    exec (loadImmInstr d n) st = loadImmediate d n st := by
  cases d with
  | reg r => cases r <;> rfl
  | memHL => rfl

@[simp] theorem exec_aluInstr (o : AluOp) (src : Operand8) (st : State) :
    exec (aluInstr o src) st = aluOperand o src st := by
  cases o <;> (cases src with
  | reg r => cases r <;> rfl
  | memHL => rfl)

@[simp] theorem exec_aluImmInstr (o : AluOp) (n : Byte) (st : State) :
    exec (aluImmInstr o n) st = aluImmediate o n st := by
  cases o <;> rfl

@[simp] theorem exec_incInstr (d : Operand8) (st : State) :
    exec (incInstr d) st = incOperand d st := by
  cases d with
  | reg r => cases r <;> rfl
  | memHL => rfl

@[simp] theorem exec_decInstr (d : Operand8) (st : State) :
    exec (decInstr d) st = decOperand d st := by
  cases d with
  | reg r => cases r <;> rfl
  | memHL => rfl

@[simp] theorem exec_rotInstr (o : RotOp) (d : Operand8) (st : State) :
    exec (rotInstr o d) st = .next (st.rotate o d) := by
  cases o <;> (cases d with
  | reg r => cases r <;> rfl
  | memHL => rfl)

@[simp] theorem exec_bitInstr (b : Fin 8) (d : Operand8) (st : State) :
    exec (bitInstr b d) st = .next (st.bitTest b d) := by
  fin_cases b <;> (cases d with
  | reg r => cases r <;> rfl
  | memHL => rfl)

@[simp] theorem exec_resInstr (b : Fin 8) (d : Operand8) (st : State) :
    exec (resInstr b d) st = .next (st.bitReset b d) := by
  fin_cases b <;> (cases d with
  | reg r => cases r <;> rfl
  | memHL => rfl)

@[simp] theorem exec_setInstr (b : Fin 8) (d : Operand8) (st : State) :
    exec (setInstr b d) st = .next (st.bitSet b d) := by
  fin_cases b <;> (cases d with
  | reg r => cases r <;> rfl
  | memHL => rfl)

@[simp] theorem exec_loadPairInstr (p : Pair) (n : Word) (st : State) :
    exec (loadPairInstr p n) st = loadPair p n st := by
  cases p <;> rfl

@[simp] theorem exec_addHLInstr (p : Pair) (st : State) :
    exec (addHLInstr p) st = addToHL p st := by
  cases p <;> rfl

@[simp] theorem exec_incPairInstr (p : Pair) (st : State) :
    exec (incPairInstr p) st = incPair p st := by
  cases p <;> rfl

@[simp] theorem exec_decPairInstr (p : Pair) (st : State) :
    exec (decPairInstr p) st = decPair p st := by
  cases p <;> rfl

@[simp] theorem exec_pushInstr (q : StackPair) (st : State) :
    exec (pushInstr q) st = pushPair q st := by
  cases q <;> rfl

@[simp] theorem exec_popInstr (q : StackPair) (st : State) :
    exec (popInstr q) st = popPair q st := by
  cases q <;> rfl

@[simp] theorem exec_jumpCondInstr (cc : Cond) (n : Word) (st : State) :
    exec (jumpCondInstr cc n) st = jumpIf cc n st := by
  cases cc <;> rfl

@[simp] theorem exec_jumpRelCondInstr (cc : Cond) (e : Byte) (st : State) :
    exec (jumpRelCondInstr cc e) st = jumpIf cc (st.relativeTarget e) st := by
  cases cc <;> rfl

@[simp] theorem exec_callCondInstr (cc : Cond) (n : Word) (st : State) :
    exec (callCondInstr cc n) st = callIf cc n st := by
  cases cc <;> rfl

@[simp] theorem exec_retCondInstr (cc : Cond) (st : State) :
    exec (retCondInstr cc) st = returnIf cc st := by
  cases cc <;> rfl

@[simp] theorem exec_rstInstr (y : Fin 8) (st : State) :
    exec (rstInstr y) st = restart y st := by
  fin_cases y <;> rfl

/-- An illegal byte faults, recording its opcode byte and the latched address (R240). -/
theorem exec_illegal {i : Instr} (h : i.hasTableEntry = false) (st : State) :
    ∃ op, encode i = [op] ∧ exec i st = raiseUnimplemented op st := by
  revert h
  cases i <;> intro h <;> first | exact absurd h Bool.noConfusion | exact ⟨_, rfl, rfl⟩

/-- An instruction with a dispatch-table entry runs to a next state from every state (R12: the one other outcome is the
fault of an illegal byte). -/
theorem exec_next (i : Instr) (h : i.hasTableEntry = true) (s : State) : ∃ t, exec i s = .next t := by
  have hj : ∀ cc x, ∃ t, jumpIf cc x s = .next t := by intro cc x; unfold jumpIf; split <;> exact ⟨_, rfl⟩
  have hk : ∀ cc x, ∃ t, callIf cc x s = .next t := by intro cc x; unfold callIf; split <;> exact ⟨_, rfl⟩
  have hr : ∀ cc, ∃ t, returnIf cc s = .next t := by intro cc ; unfold returnIf; split <;> exact ⟨_, rfl⟩
  have hh : ∃ t, execHalt s = .next t := by unfold execHalt haltWith; split <;> exact ⟨_, rfl⟩
  induction i using Instr.family_cases
  case load d s' =>
    clear h
    cases d with
    | reg r => rw [exec_loadInstr_reg]; exact ⟨_, rfl⟩
    | memHL => cases s' with
      | reg r => rw [exec_loadInstr_memHL_reg]; exact ⟨_, rfl⟩
      | memHL => exact hh
  case illegal i hi => rw [hi] at h; exact absurd h Bool.noConfusion
  case jumpCond cc n => rw [exec_jumpCondInstr]; exact hj _ _
  case jumpRelCond cc n => rw [exec_jumpRelCondInstr]; exact hj _ _
  case callCond cc n => rw [exec_callCondInstr]; exact hk _ _
  case retCond cc => rw [exec_retCondInstr]; exact hr _
  case of_prefixCb => exact ⟨_, rfl⟩
  case loadImm => rw [exec_loadImmInstr]; exact ⟨_, rfl⟩
  case alu => rw [exec_aluInstr]; exact ⟨_, rfl⟩
  case aluImm => rw [exec_aluImmInstr]; exact ⟨_, rfl⟩
  case inc => rw [exec_incInstr]; exact ⟨_, rfl⟩
  case dec => rw [exec_decInstr]; exact ⟨_, rfl⟩
  case rot => exact ⟨_, exec_rotInstr ..⟩
  case bit => exact ⟨_, exec_bitInstr ..⟩
  case res => exact ⟨_, exec_resInstr ..⟩
  case set => exact ⟨_, exec_setInstr ..⟩
  case loadPair => rw [exec_loadPairInstr]; exact ⟨_, rfl⟩
  case addHL => rw [exec_addHLInstr]; exact ⟨_, rfl⟩
  case incPair => rw [exec_incPairInstr]; exact ⟨_, rfl⟩
  case decPair => rw [exec_decPairInstr]; exact ⟨_, rfl⟩
  case push => rw [exec_pushInstr]; exact ⟨_, rfl⟩
  case pop => rw [exec_popInstr]; exact ⟨_, rfl⟩
  case rst => rw [exec_rstInstr]; exact ⟨_, rfl⟩
  all_goals exact ⟨_, rfl⟩

/-! ## `Execute(op)` under given parameters -/

theorem execWith_halt (p : Params) (s : State) : execWith p .halt s = haltWith p s := rfl
theorem execWith_prefixCb (p : Params) (s : State) : execWith p .prefixCb s = prefixCbWith p s := rfl

/-- Every instruction but HALT and the bare prefix reads no parameter. -/
theorem execWith_eq_exec (p : Params) {i : Instr} (hh : i ≠ .halt) (hc : i ≠ .prefixCb) (s : State) :
    execWith p i s = exec i s := by
  unfold execWith
  split
  · exact absurd rfl hh
  · exact absurd rfl hc
  · rfl

/-- At the defaults every instruction is `exec`'s. -/
theorem execWith_engineParams (i : Instr) (s : State) : execWith engineParams i s = exec i s := by
  unfold execWith
  split <;> rfl

/-- An illegal byte faults under every parameter. -/
theorem execWith_illegal (p : Params) {i : Instr} (h : i.hasTableEntry = false) (st : State) :
    ∃ op, encode i = [op] ∧ execWith p i st = raiseUnimplemented op st := by
  rw [execWith_eq_exec p (by rintro rfl; exact absurd h Bool.noConfusion) (by rintro rfl; exact absurd h Bool.noConfusion)]
  exact exec_illegal h st

/-- An instruction with a dispatch-table entry runs to a next state under every parameter. -/
theorem execWith_next (p : Params) (i : Instr) (h : i.hasTableEntry = true) (s : State) :
    ∃ t, execWith p i s = .next t := by
  unfold execWith
  split
  · unfold haltWith; split <;> exact ⟨_, rfl⟩
  · exact ⟨_, rfl⟩
  · exact exec_next i h s

end Sys2Proof.Machine
end

