-- ==== Sys2Proof/Laws/Ops.lean ====
section
/-! SUPPORT. What the shared operations outside an instruction can do: the interrupt controller and the timer. -/

namespace Sys2Proof.Machine

/-! ## The interrupt controller -/

/-- `lowestSource` is the least set bit among the five (`60_exceptions.md` R244). -/
theorem lowestSource_eq_some {pend : Byte} {i : Fin 5} :
    lowestSource pend = some i ↔
      pend.getLsbD i.val = true ∧ ∀ j : Fin 5, j < i → pend.getLsbD j.val = false := by
  revert pend i; decide +kernel

theorem lowestSource_eq_none {pend : Byte} :
    lowestSource pend = none ↔ ∀ j : Fin 5, pend.getLsbD j.val = false := by
  revert pend; decide +kernel

namespace State

/-- The pending byte has no bit above the five sources (R242). -/
theorem pending_high_bits (s : State) (p : Params) (k : Nat) (h : 5 ≤ k) : (s.pending p).getLsbD k = false := by
  have hm : pendingMask.getLsbD k = false := by
    by_cases hk : k < 8
    · have : k = 5 ∨ k = 6 ∨ k = 7 := by omega
      rcases this with rfl | rfl | rfl <;> rfl
    · exact BitVec.getLsbD_of_ge _ _ (by omega)
  simp [pending, hm]

/-- Nothing is pending exactly when no source is found. -/
theorem pending_eq_zero_iff (s : State) (p : Params) : s.pending p = 0 ↔ lowestSource (s.pending p) = none := by
  rw [lowestSource_eq_none]
  constructor
  · intro h j; rw [h]; simp
  · intro h
    apply BitVec.eq_of_getLsbD_eq
    intro k hk
    by_cases h5 : k < 5
    · simpa using h ⟨k, h5⟩
    · simpa using pending_high_bits s p k (by omega)

theorem pending_congr (p : Params) {s t : State} (h : t.mem = s.mem) : t.pending p = s.pending p := by
  simp [pending, readByte_congr h]

/-! ### Interrupt entry: what it leaves alone, and what it writes -/

@[simp] theorem enterInterrupt_a (s : State) (p : Params) (i : Fin 5) : (s.enterInterrupt p i).a = s.a := by simp [enterInterrupt]
@[simp] theorem enterInterrupt_f (s : State) (p : Params) (i : Fin 5) : (s.enterInterrupt p i).f = s.f := by simp [enterInterrupt]
@[simp] theorem enterInterrupt_b (s : State) (p : Params) (i : Fin 5) : (s.enterInterrupt p i).b = s.b := by simp [enterInterrupt]
@[simp] theorem enterInterrupt_c (s : State) (p : Params) (i : Fin 5) : (s.enterInterrupt p i).c = s.c := by simp [enterInterrupt]
@[simp] theorem enterInterrupt_d (s : State) (p : Params) (i : Fin 5) : (s.enterInterrupt p i).d = s.d := by simp [enterInterrupt]
@[simp] theorem enterInterrupt_e (s : State) (p : Params) (i : Fin 5) : (s.enterInterrupt p i).e = s.e := by simp [enterInterrupt]
@[simp] theorem enterInterrupt_h (s : State) (p : Params) (i : Fin 5) : (s.enterInterrupt p i).h = s.h := by simp [enterInterrupt]
@[simp] theorem enterInterrupt_l (s : State) (p : Params) (i : Fin 5) : (s.enterInterrupt p i).l = s.l := by simp [enterInterrupt]
@[simp] theorem enterInterrupt_opcode (s : State) (p : Params) (i : Fin 5) : (s.enterInterrupt p i).opcode = s.opcode := by simp [enterInterrupt]
@[simp] theorem enterInterrupt_opcodeAddr (s : State) (p : Params) (i : Fin 5) : (s.enterInterrupt p i).opcodeAddr = s.opcodeAddr := by simp [enterInterrupt]
@[simp] theorem enterInterrupt_total (s : State) (p : Params) (i : Fin 5) : (s.enterInterrupt p i).total = s.total := by simp [enterInterrupt]
@[simp] theorem enterInterrupt_stopped (s : State) (p : Params) (i : Fin 5) : (s.enterInterrupt p i).stopped = s.stopped := by simp [enterInterrupt]
@[simp] theorem enterInterrupt_haltBug (s : State) (p : Params) (i : Fin 5) : (s.enterInterrupt p i).haltBug = s.haltBug := by simp [enterInterrupt]
@[simp] theorem enterInterrupt_imePending (s : State) (p : Params) (i : Fin 5) : (s.enterInterrupt p i).imePending = s.imePending := by simp [enterInterrupt]
@[simp] theorem enterInterrupt_ime (s : State) (p : Params) (i : Fin 5) : (s.enterInterrupt p i).ime = false := by simp [enterInterrupt]
@[simp] theorem enterInterrupt_sp (s : State) (p : Params) (i : Fin 5) : (s.enterInterrupt p i).sp = s.sp - 2 := by simp [enterInterrupt]
@[simp] theorem enterInterrupt_pc (s : State) (p : Params) (i : Fin 5) : (s.enterInterrupt p i).pc = interruptVector i := by simp [enterInterrupt]
@[simp] theorem enterInterrupt_remaining (s : State) (p : Params) (i : Fin 5) :
    (s.enterInterrupt p i).remaining = s.remaining + interruptLatency := by simp [enterInterrupt]
@[simp] theorem enterInterrupt_halted (s : State) (p : Params) (i : Fin 5) :
    (s.enterInterrupt p i).halted = (s.halted && !p.serviceClearsHalt) := by simp [enterInterrupt]

/-- The bytes after interrupt entry: the pushed PC last, over IF where they alias (R245). -/
theorem readByte_enterInterrupt (s : State) (p : Params) (i : Fin 5) (x : Word) :
    (s.enterInterrupt p i).readByte x =
      if x = s.sp - 2 then lowByte s.pc
      else if x = s.sp - 1 then highByte s.pc
      else if x = p.ifAddr then clearRequest i (s.readByte p.ifAddr)
      else s.readByte x := by
  have h : (s.enterInterrupt p i).readByte x =
      (({ s with ime := false }.modifyByte p.ifAddr (clearRequest i)).call (interruptVector i)).readByte x := by
    simp [enterInterrupt, readByte]
  rw [h, readByte_call, readByte_modifyByte]
  rfl

theorem wf_enterInterrupt {s : State} (p : Params) (i : Fin 5) (h : s.mem.wf = true) :
    (s.enterInterrupt p i).mem.wf = true := by
  have : (s.enterInterrupt p i).mem =
      (({ s with ime := false }.modifyByte p.ifAddr (clearRequest i)).call (interruptVector i)).mem := by
    simp [enterInterrupt]
  rw [this]
  exact wf_call _ (wf_modifyByte _ _ h)

theorem getReg_enterInterrupt (s : State) (p : Params) (i : Fin 5) (r : Reg8) :
    (s.enterInterrupt p i).getReg r = s.getReg r := by cases r <;> simp [getReg]

/-- All that the check can do: nothing, or enter the lowest pending source when IME is 1 (R243, R245). -/
theorem interruptCheck_cases (s : State) (p : Params) :
    (s.interruptCheck p = s ∧ (s.ime = false ∨ lowestSource (s.pending p) = none)) ∨
    ∃ i, s.ime = true ∧ lowestSource (s.pending p) = some i ∧ s.interruptCheck p = s.enterInterrupt p i := by
  unfold interruptCheck
  cases hi : s.ime
  · simp
  · cases hl : lowestSource (s.pending p) <;> simp

theorem interruptCheck_of_ime_false {s : State} (p : Params) (h : s.ime = false) : s.interruptCheck p = s := by
  simp [interruptCheck, h]

theorem interruptCheck_of_none {s : State} (p : Params) (h : lowestSource (s.pending p) = none) :
    s.interruptCheck p = s := by
  simp [interruptCheck, h]

theorem interruptCheck_of_some {s : State} (p : Params) {i : Fin 5} (hi : s.ime = true)
    (h : lowestSource (s.pending p) = some i) : s.interruptCheck p = s.enterInterrupt p i := by
  simp [interruptCheck, hi, h]

theorem wf_interruptCheck {s : State} (p : Params) (h : s.mem.wf = true) :
    (s.interruptCheck p).mem.wf = true := by
  rcases interruptCheck_cases s p with ⟨he, -⟩ | ⟨i, -, -, he⟩ <;> rw [he]
  · exact h
  · exact wf_enterInterrupt p i h

/-! ## The timer -/

/-- Another state's memory in place of this one's: all that the divider and the counter can change. -/
theorem tickDivider_frame (s : State) (p : Params) : (s.tickDivider p) = { s with mem := (s.tickDivider p).mem } := by
  unfold tickDivider
  split <;> simp [modifyByte, writeByte]

theorem tickCounter_frame (s : State) (p : Params) : (s.tickCounter p) = { s with mem := (s.tickCounter p).mem } := by
  unfold tickCounter countTima timerOverflow
  split
  · split <;> simp [modifyByte, writeByte]
  · simp

/-- A tick changes `total` and memory only (R255). -/
theorem timerTick_frame (s : State) (p : Params) :
    s.timerTick p = { s with total := s.total + 1, mem := (s.timerTick p).mem } := by
  unfold timerTick
  rw [tickCounter_frame, tickDivider_frame]

@[simp] theorem timerTick_a (s : State) (p : Params) : (s.timerTick p).a = s.a := by rw [timerTick_frame]
@[simp] theorem timerTick_f (s : State) (p : Params) : (s.timerTick p).f = s.f := by rw [timerTick_frame]
@[simp] theorem timerTick_b (s : State) (p : Params) : (s.timerTick p).b = s.b := by rw [timerTick_frame]
@[simp] theorem timerTick_c (s : State) (p : Params) : (s.timerTick p).c = s.c := by rw [timerTick_frame]
@[simp] theorem timerTick_d (s : State) (p : Params) : (s.timerTick p).d = s.d := by rw [timerTick_frame]
@[simp] theorem timerTick_e (s : State) (p : Params) : (s.timerTick p).e = s.e := by rw [timerTick_frame]
@[simp] theorem timerTick_h (s : State) (p : Params) : (s.timerTick p).h = s.h := by rw [timerTick_frame]
@[simp] theorem timerTick_l (s : State) (p : Params) : (s.timerTick p).l = s.l := by rw [timerTick_frame]
@[simp] theorem timerTick_sp (s : State) (p : Params) : (s.timerTick p).sp = s.sp := by rw [timerTick_frame]
@[simp] theorem timerTick_pc (s : State) (p : Params) : (s.timerTick p).pc = s.pc := by rw [timerTick_frame]
@[simp] theorem timerTick_opcode (s : State) (p : Params) : (s.timerTick p).opcode = s.opcode := by rw [timerTick_frame]
@[simp] theorem timerTick_opcodeAddr (s : State) (p : Params) : (s.timerTick p).opcodeAddr = s.opcodeAddr := by rw [timerTick_frame]
@[simp] theorem timerTick_remaining (s : State) (p : Params) : (s.timerTick p).remaining = s.remaining := by rw [timerTick_frame]
@[simp] theorem timerTick_stopped (s : State) (p : Params) : (s.timerTick p).stopped = s.stopped := by rw [timerTick_frame]
@[simp] theorem timerTick_halted (s : State) (p : Params) : (s.timerTick p).halted = s.halted := by rw [timerTick_frame]
@[simp] theorem timerTick_haltBug (s : State) (p : Params) : (s.timerTick p).haltBug = s.haltBug := by rw [timerTick_frame]
@[simp] theorem timerTick_ime (s : State) (p : Params) : (s.timerTick p).ime = s.ime := by rw [timerTick_frame]
@[simp] theorem timerTick_imePending (s : State) (p : Params) : (s.timerTick p).imePending = s.imePending := by rw [timerTick_frame]
@[simp] theorem timerTick_total (s : State) (p : Params) : (s.timerTick p).total = s.total + 1 := by rw [timerTick_frame]
@[simp] theorem tickDivider_total (s : State) (p : Params) : (s.tickDivider p).total = s.total := by rw [tickDivider_frame]

theorem getReg_timerTick (s : State) (p : Params) (r : Reg8) : (s.timerTick p).getReg r = s.getReg r := by
  cases r <;> simp [getReg]

theorem readByte_tickDivider (s : State) (p : Params) (x : Word) :
    (s.tickDivider p).readByte x =
      if x = p.divAddr ∧ s.total % 256 = 0 then s.readByte p.divAddr + 1 else s.readByte x := by
  unfold tickDivider
  split <;> simp [readByte_modifyByte, *]

theorem readByte_timerOverflow (s : State) (p : Params) (x : Word) :
    (s.timerOverflow p).readByte x =
      if x = p.ifAddr then
        (if p.ifAddr = p.timaAddr then s.readByte p.tmaAddr else s.readByte p.ifAddr) ||| 0x04
      else if x = p.timaAddr then s.readByte p.tmaAddr else s.readByte x := by
  simp [timerOverflow, readByte_modifyByte, readByte_writeByte]

/-- A tick changes no byte but DIV, TIMA and IF (R255 to R258). -/
theorem readByte_timerTick_ne (s : State) (p : Params) {x : Word} (hd : x ≠ p.divAddr) (ht : x ≠ p.timaAddr)
    (hi : x ≠ p.ifAddr) : (s.timerTick p).readByte x = s.readByte x := by
  have h1 : ∀ u : State, (u.tickCounter p).readByte x = u.readByte x := by
    intro u
    unfold tickCounter countTima
    split
    · split
      · rw [readByte_timerOverflow]; simp [hi, ht]
      · rw [readByte_modifyByte]; simp [ht]
    · rfl
  rw [timerTick, h1, readByte_tickDivider]
  simp [hd, readByte]

/-- A tick reads `total` and memory only (R255 to R258). -/
theorem timerTick_mem_congr (p : Params) {s t : State} (hm : t.mem = s.mem) (ht : t.total = s.total) :
    (t.timerTick p).mem = (s.timerTick p).mem := by
  have hd : ∀ u v : State, v.mem = u.mem → v.total = u.total → (v.tickDivider p).mem = (u.tickDivider p).mem := by
    intro u v hm ht
    unfold tickDivider modifyByte writeByte readByte
    rw [ht]
    split <;> simp [hm]
  have hc : ∀ u v : State, v.mem = u.mem → v.total = u.total → (v.tickCounter p).mem = (u.tickCounter p).mem := by
    intro u v hm ht
    unfold tickCounter counterTicks countTima timerOverflow modifyByte writeByte readByte
    rw [ht, hm]
    split
    · split <;> simp
    · exact hm
  exact hc _ _ (hd _ _ hm (by simp [ht])) (by simp [ht])

theorem wf_timerTick {s : State} (p : Params) (h : s.mem.wf = true) : (s.timerTick p).mem.wf = true := by
  have h1 : ∀ u : State, u.mem.wf = true → (u.tickDivider p).mem.wf = true := by
    intro u hu
    unfold tickDivider
    split
    · exact wf_modifyByte _ _ hu
    · exact hu
  have h2 : ∀ u : State, u.mem.wf = true → (u.tickCounter p).mem.wf = true := by
    intro u hu
    unfold tickCounter countTima
    split
    · split
      · exact wf_modifyByte _ _ (wf_writeByte _ _ hu)
      · exact wf_modifyByte _ _ hu
    · exact hu
  exact h2 _ (h1 _ h)

end State

end Sys2Proof.Machine
end

