-- ==== Sys2Proof/Laws/Engine.lean ====
section
/-! SUPPORT. What a step can do, said once: the inversions of the fetch step and of `stepWith`, and the phases between. -/

namespace Sys2Proof.Machine

namespace State

/-! ## The pending-IME transition -/

/-- All that `ApplyIME` can do: nothing, or set IME and clear the pending enable (`40_execution_cycle.md` R108). -/
theorem applyIme_cases (s : State) (mode : EiDelayMode) (p0 : Bool) (kind : StepKind) :
    s.applyIme mode p0 kind = s ∨
    (p0 = true ∧ s.imePending = true ∧ ¬(mode = .afterNextInstruction ∧ kind = .mid) ∧
      s.applyIme mode p0 kind = { s with ime := true, imePending := false }) := by
  unfold applyIme
  split
  · exact .inl rfl
  · rename_i hm
    cases p0 <;> cases hp : s.imePending <;> simp [hm]

@[simp] theorem applyIme_a (s : State) (mode : EiDelayMode) (p0 : Bool) (kind : StepKind) : (s.applyIme mode p0 kind).a = s.a := by
  rcases applyIme_cases s mode p0 kind with h | ⟨-, -, -, h⟩ <;> rw [h]
@[simp] theorem applyIme_f (s : State) (mode : EiDelayMode) (p0 : Bool) (kind : StepKind) : (s.applyIme mode p0 kind).f = s.f := by
  rcases applyIme_cases s mode p0 kind with h | ⟨-, -, -, h⟩ <;> rw [h]
@[simp] theorem applyIme_b (s : State) (mode : EiDelayMode) (p0 : Bool) (kind : StepKind) : (s.applyIme mode p0 kind).b = s.b := by
  rcases applyIme_cases s mode p0 kind with h | ⟨-, -, -, h⟩ <;> rw [h]
@[simp] theorem applyIme_c (s : State) (mode : EiDelayMode) (p0 : Bool) (kind : StepKind) : (s.applyIme mode p0 kind).c = s.c := by
  rcases applyIme_cases s mode p0 kind with h | ⟨-, -, -, h⟩ <;> rw [h]
@[simp] theorem applyIme_d (s : State) (mode : EiDelayMode) (p0 : Bool) (kind : StepKind) : (s.applyIme mode p0 kind).d = s.d := by
  rcases applyIme_cases s mode p0 kind with h | ⟨-, -, -, h⟩ <;> rw [h]
@[simp] theorem applyIme_e (s : State) (mode : EiDelayMode) (p0 : Bool) (kind : StepKind) : (s.applyIme mode p0 kind).e = s.e := by
  rcases applyIme_cases s mode p0 kind with h | ⟨-, -, -, h⟩ <;> rw [h]
@[simp] theorem applyIme_h (s : State) (mode : EiDelayMode) (p0 : Bool) (kind : StepKind) : (s.applyIme mode p0 kind).h = s.h := by
  rcases applyIme_cases s mode p0 kind with h | ⟨-, -, -, h⟩ <;> rw [h]
@[simp] theorem applyIme_l (s : State) (mode : EiDelayMode) (p0 : Bool) (kind : StepKind) : (s.applyIme mode p0 kind).l = s.l := by
  rcases applyIme_cases s mode p0 kind with h | ⟨-, -, -, h⟩ <;> rw [h]
@[simp] theorem applyIme_sp (s : State) (mode : EiDelayMode) (p0 : Bool) (kind : StepKind) : (s.applyIme mode p0 kind).sp = s.sp := by
  rcases applyIme_cases s mode p0 kind with h | ⟨-, -, -, h⟩ <;> rw [h]
@[simp] theorem applyIme_pc (s : State) (mode : EiDelayMode) (p0 : Bool) (kind : StepKind) : (s.applyIme mode p0 kind).pc = s.pc := by
  rcases applyIme_cases s mode p0 kind with h | ⟨-, -, -, h⟩ <;> rw [h]
@[simp] theorem applyIme_opcode (s : State) (mode : EiDelayMode) (p0 : Bool) (kind : StepKind) : (s.applyIme mode p0 kind).opcode = s.opcode := by
  rcases applyIme_cases s mode p0 kind with h | ⟨-, -, -, h⟩ <;> rw [h]
@[simp] theorem applyIme_opcodeAddr (s : State) (mode : EiDelayMode) (p0 : Bool) (kind : StepKind) : (s.applyIme mode p0 kind).opcodeAddr = s.opcodeAddr := by
  rcases applyIme_cases s mode p0 kind with h | ⟨-, -, -, h⟩ <;> rw [h]
@[simp] theorem applyIme_remaining (s : State) (mode : EiDelayMode) (p0 : Bool) (kind : StepKind) : (s.applyIme mode p0 kind).remaining = s.remaining := by
  rcases applyIme_cases s mode p0 kind with h | ⟨-, -, -, h⟩ <;> rw [h]
@[simp] theorem applyIme_total (s : State) (mode : EiDelayMode) (p0 : Bool) (kind : StepKind) : (s.applyIme mode p0 kind).total = s.total := by
  rcases applyIme_cases s mode p0 kind with h | ⟨-, -, -, h⟩ <;> rw [h]
@[simp] theorem applyIme_stopped (s : State) (mode : EiDelayMode) (p0 : Bool) (kind : StepKind) : (s.applyIme mode p0 kind).stopped = s.stopped := by
  rcases applyIme_cases s mode p0 kind with h | ⟨-, -, -, h⟩ <;> rw [h]
@[simp] theorem applyIme_halted (s : State) (mode : EiDelayMode) (p0 : Bool) (kind : StepKind) : (s.applyIme mode p0 kind).halted = s.halted := by
  rcases applyIme_cases s mode p0 kind with h | ⟨-, -, -, h⟩ <;> rw [h]
@[simp] theorem applyIme_haltBug (s : State) (mode : EiDelayMode) (p0 : Bool) (kind : StepKind) : (s.applyIme mode p0 kind).haltBug = s.haltBug := by
  rcases applyIme_cases s mode p0 kind with h | ⟨-, -, -, h⟩ <;> rw [h]
@[simp] theorem applyIme_mem (s : State) (mode : EiDelayMode) (p0 : Bool) (kind : StepKind) : (s.applyIme mode p0 kind).mem = s.mem := by
  rcases applyIme_cases s mode p0 kind with h | ⟨-, -, -, h⟩ <;> rw [h]

theorem readByte_applyIme (s : State) (mode : EiDelayMode) (p0 : Bool) (kind : StepKind) (x : Word) :
    (s.applyIme mode p0 kind).readByte x = s.readByte x := readByte_congr (by simp) x

/-! ## Fetch -/

@[simp] theorem readByte_afterOpcodeFetch (s : State) (x : Word) :
    s.afterOpcodeFetch.readByte x = s.readByte x := rfl
@[simp] theorem getReg_afterOpcodeFetch (s : State) (r : Reg8) : s.afterOpcodeFetch.getReg r = s.getReg r := by
  cases r <;> rfl
@[simp] theorem readByte_afterFetch (s : State) (n : StopLength) (x : Word) :
    (s.afterFetch n).readByte x = s.readByte x := rfl
@[simp] theorem getReg_afterFetch (s : State) (n : StopLength) (r : Reg8) :
    (s.afterFetch n).getReg r = s.getReg r := by cases r <;> rfl
@[simp] theorem afterFetch_opcode (s : State) (n : StopLength) :
    (s.afterFetch n).opcode = s.readByte s.pc := rfl
@[simp] theorem afterFetch_opcodeAddr (s : State) (n : StopLength) : (s.afterFetch n).opcodeAddr = s.pc := rfl
@[simp] theorem afterFetch_haltBug (s : State) (n : StopLength) : (s.afterFetch n).haltBug = false := rfl

end State

/-! ## The mid-instruction step in its two orders (R111) -/

theorem State.midStep_timerFirst {p : Params} (s : State) (h : p.midOrder = .timerFirst) :
    s.midStep p = (({ s with remaining := s.remaining - 1 }.timerTick p).applyIme p.eiDelay s.imePending
      .mid).interruptCheck p := by
  simp [State.midStep, h]

theorem State.midStep_timerLast {p : Params} (s : State) (h : p.midOrder = .timerLast) :
    s.midStep p = (({ s with remaining := s.remaining - 1 }.applyIme p.eiDelay s.imePending
      .mid).interruptCheck p).timerTick p := by
  simp [State.midStep, h]

/-! ## The step -/

/-- A fetch step that goes on fetched a byte outside ILLEGAL_SET and ran its instruction to a next state first. -/
theorem fetchStep_next {p : Params} {s t : State} (h : fetchStep p s = .next t) :
    s.readByte s.pc ∉ p.illegalSet ∧
      ∃ u, execWith p s.fetchedInstr (s.afterFetch p.stopLength) = .next u ∧
        t = u.finishFetch p s.imePending s.fetchedInstr := by
  unfold fetchStep at h
  split at h
  · cases h
  · refine ⟨‹_›, ?_⟩
    split at h
    · exact ⟨_, ‹_›, by simpa using h.symm⟩
    · cases h
    · cases h

/-- The state a core that is not Stopped runs from: Halted cleared by a wake, nothing else (R102). -/
def State.awake (s : State) : State := { s with halted := false }

/-- All that a step that goes on can be (R102): a Stopped tick, a Halted tick, a mid-instruction step, or a fetch step;
the last two from the state a wake leaves. -/
theorem stepWith_next {p : Params} {s t : State} (h : stepWith p s = .next t) :
    (s.stopped = true ∧ t = s.timerTick p) ∨
    (s.stopped = false ∧ s.halted = true ∧ s.pending p = 0 ∧ t = s.timerTick p) ∨
    (s.stopped = false ∧ (s.halted = true → s.pending p ≠ 0) ∧ 0 < s.remaining ∧ t = s.awake.midStep p) ∨
    (s.stopped = false ∧ (s.halted = true → s.pending p ≠ 0) ∧ s.remaining = 0 ∧
      fetchStep p s.awake = .next t) := by
  have run : ∀ u : State, u.remaining = s.remaining → runningStep p u = .next t →
      (0 < s.remaining ∧ t = u.midStep p) ∨ (s.remaining = 0 ∧ fetchStep p u = .next t) := by
    intro u hu hr
    unfold runningStep at hr
    split at hr
    · exact .inl ⟨by omega, by simpa using hr.symm⟩
    · exact .inr ⟨by omega, hr⟩
  have awake_self : s.halted = false → s.awake = s := by
    intro hh; simp [State.awake, ← hh]
  unfold stepWith at h
  split at h
  · exact .inl ⟨‹_›, by simpa using h.symm⟩
  · rename_i hs
    have hs : s.stopped = false := by simpa using hs
    split at h
    · rename_i hh
      split at h
      · rename_i hp
        rcases run s.awake rfl h with ⟨h1, h2⟩ | ⟨h1, h2⟩
        · exact .inr (.inr (.inl ⟨hs, fun _ => hp, h1, h2⟩))
        · exact .inr (.inr (.inr ⟨hs, fun _ => hp, h1, h2⟩))
      · rename_i hp
        exact .inr (.inl ⟨hs, hh, by simpa using hp, by simpa using h.symm⟩)
    · rename_i hh
      have hh : s.halted = false := by simpa using hh
      rcases run s rfl h with ⟨h1, h2⟩ | ⟨h1, h2⟩
      · exact .inr (.inr (.inl ⟨hs, by simp [hh], h1, by rw [awake_self hh]; exact h2⟩))
      · exact .inr (.inr (.inr ⟨hs, by simp [hh], h1, by rw [awake_self hh]; exact h2⟩))

/-- A Stopped core's step is the timer tick (R102 branch 1). -/
theorem stepWith_stopped (p : Params) {s : State} (hs : s.stopped = true) : stepWith p s = .next (s.timerTick p) := by
  simp [stepWith, hs]

/-- A Halted core's step with nothing pending is the timer tick (R102 branch 2). -/
theorem stepWith_halted (p : Params) {s : State} (hs : s.stopped = false) (hh : s.halted = true)
    (hp : s.pending p = 0) : stepWith p s = .next (s.timerTick p) := by
  simp [stepWith, hs, hh, hp]

/-- A core that is not Stopped, and not Halted or woken, runs from the state the wake leaves. -/
theorem stepWith_awake (p : Params) {s : State} (hs : s.stopped = false)
    (hh : s.halted = true → s.pending p ≠ 0) : stepWith p s = runningStep p s.awake := by
  unfold stepWith
  rw [if_neg (by simp [hs])]
  cases h : s.halted
  · rw [if_neg Bool.false_ne_true]
    exact congrArg (runningStep p) (by simp [State.awake, ← h])
  · rw [if_pos rfl, if_pos (hh h)]; rfl

/-- Such a core with no cycles left takes the fetch step. -/
theorem stepWith_fetch (p : Params) {s : State} (hs : s.stopped = false)
    (hh : s.halted = true → s.pending p ≠ 0) (hr : s.remaining = 0) :
    stepWith p s = fetchStep p s.awake := by
  rw [stepWith_awake p hs hh, runningStep, if_neg (by simp [State.awake, hr])]

/-- Such a core with cycles left takes the mid-instruction step. -/
theorem stepWith_mid_awake (p : Params) {s : State} (hs : s.stopped = false)
    (hh : s.halted = true → s.pending p ≠ 0) (hr : 0 < s.remaining) :
    stepWith p s = .next (s.awake.midStep p) := by
  rw [stepWith_awake p hs hh, runningStep, if_pos (show 0 < s.awake.remaining from hr)]

/-- A core that is running with no cycles left takes the fetch step. -/
theorem stepWith_ready (p : Params) {s : State} (hs : s.stopped = false) (hh : s.halted = false)
    (hr : s.remaining = 0) : stepWith p s = fetchStep p s := by
  simp [stepWith, runningStep, hs, hh, hr]

/-- A core that is running with cycles left takes the mid-instruction step. -/
theorem stepWith_mid (p : Params) {s : State} (hs : s.stopped = false) (hh : s.halted = false)
    (hr : 0 < s.remaining) : stepWith p s = .next (s.midStep p) := by
  simp [stepWith, runningStep, hs, hh, hr]

/-- A fetch step outside ILLEGAL_SET whose instruction answers a next state goes on. -/
theorem fetchStep_of_next {p : Params} {s u : State} (hl : s.readByte s.pc ∉ p.illegalSet)
    (h : execWith p s.fetchedInstr (s.afterFetch p.stopLength) = .next u) :
    fetchStep p s = .next (u.finishFetch p s.imePending s.fetchedInstr) := by
  simp [fetchStep, hl, h]

/-- A fetch step outside ILLEGAL_SET whose instruction faults answers that fault. -/
theorem fetchStep_of_fault {p : Params} {s : State} {r : Fault} (hl : s.readByte s.pc ∉ p.illegalSet)
    (h : execWith p s.fetchedInstr (s.afterFetch p.stopLength) = .fault r) : fetchStep p s = .fault r := by
  simp [fetchStep, hl, h]

/-- A byte of ILLEGAL_SET faults in the state after the opcode fetch (R109). -/
theorem fetchStep_of_illegal {p : Params} {s : State} (hl : s.readByte s.pc ∈ p.illegalSet) :
    fetchStep p s = raiseUnimplemented (s.readByte s.pc) s.afterOpcodeFetch := by
  simp [fetchStep, hl]

end Sys2Proof.Machine
end

