-- ==== Sys2Proof/Laws/Inversion.lean ====
section
/-! SUPPORT. What one instruction can do, said once: every next state `execWith p` answers, one case a family. A property that every instruction has follows by `cases runs_of_execWith h`, or `cases runs_of_exec h` at the defaults. -/

namespace Sys2Proof.Machine

/-- The CB row of `cb` leaves alone everything but the 8-bit registers, F and memory. -/
theorem executeCb_cases (s : State) (cb : Byte) :
    (∃ o d, s.executeCb cb = s.rotate o d) ∨ (∃ b d, s.executeCb cb = s.bitTest b d) ∨
    (∃ b d, s.executeCb cb = s.bitReset b d) ∨ ∃ b d, s.executeCb cb = s.bitSet b d := by
  unfold State.executeCb
  generalize fieldX cb = x
  match x with
  | 0 => exact .inl ⟨_, _, rfl⟩
  | 1 => exact .inr (.inl ⟨_, _, rfl⟩)
  | 2 => exact .inr (.inr (.inl ⟨_, _, rfl⟩))
  | 3 => exact .inr (.inr (.inr ⟨_, _, rfl⟩))

/-- `Runs p s i t`: under `p`, running `i` from `s` gives `t`. One constructor a shape of effect. -/
inductive Runs (p : Params) (s : State) : Instr → State → Prop where
  | load (d src : Operand8) (hne : ¬(d = .memHL ∧ src = .memHL)) :
      Runs p s (loadInstr d src) (s.writeOperand d (s.readOperand src))
  | loadImm (d : Operand8) (n : Byte) : Runs p s (loadImmInstr d n) (s.writeOperand d n)
  | alu (o : AluOp) (src : Operand8) : Runs p s (aluInstr o src) (s.accumulate o (s.readOperand src))
  | aluImm (o : AluOp) (n : Byte) : Runs p s (aluImmInstr o n) (s.accumulate o n)
  | inc (d : Operand8) : Runs p s (incInstr d)
      ((s.writeOperand d (inc8 (s.readOperand d) s.flagC).value).setFlags (inc8 (s.readOperand d) s.flagC).flags)
  | dec (d : Operand8) : Runs p s (decInstr d)
      ((s.writeOperand d (dec8 (s.readOperand d) s.flagC).value).setFlags (dec8 (s.readOperand d) s.flagC).flags)
  | rot (o : RotOp) (d : Operand8) : Runs p s (rotInstr o d) (s.rotate o d)
  | bit (b : Fin 8) (d : Operand8) : Runs p s (bitInstr b d) (s.bitTest b d)
  | res (b : Fin 8) (d : Operand8) : Runs p s (resInstr b d) (s.bitReset b d)
  | set (b : Fin 8) (d : Operand8) : Runs p s (setInstr b d) (s.bitSet b d)
  | loadPair (rp : Pair) (n : Word) : Runs p s (loadPairInstr rp n) (s.setPair rp n)
  | addHL (rp : Pair) : Runs p s (addHLInstr rp)
      ((s.setHL (addHL16 s.hl (s.getPair rp) s.flagZ).value).setFlags (addHL16 s.hl (s.getPair rp) s.flagZ).flags)
  | incPair (rp : Pair) : Runs p s (incPairInstr rp) (s.setPair rp (s.getPair rp + 1))
  | decPair (rp : Pair) : Runs p s (decPairInstr rp) (s.setPair rp (s.getPair rp - 1))
  | push (q : StackPair) : Runs p s (pushInstr q) (s.push16 (s.getStackPair q))
  | pop (q : StackPair) : Runs p s (popInstr q) (s.dropTop.setStackPair q s.stackTop)
  | jumpNotTaken (cc : Cond) (n : Word) (hcc : s.cond cc = false) : Runs p s (jumpCondInstr cc n) s
  | jumpTaken (cc : Cond) (n : Word) (hcc : s.cond cc = true) :
      Runs p s (jumpCondInstr cc n) ((s.jump n).addCycles jumpTakenExtra)
  | relativeNotTaken (cc : Cond) (e : Byte) (hcc : s.cond cc = false) : Runs p s (jumpRelCondInstr cc e) s
  | relativeTaken (cc : Cond) (e : Byte) (hcc : s.cond cc = true) :
      Runs p s (jumpRelCondInstr cc e) ((s.jump (s.relativeTarget e)).addCycles jumpTakenExtra)
  | callNotTaken (cc : Cond) (n : Word) (hcc : s.cond cc = false) : Runs p s (callCondInstr cc n) s
  | callTaken (cc : Cond) (n : Word) (hcc : s.cond cc = true) :
      Runs p s (callCondInstr cc n) ((s.call n).addCycles callTakenExtra)
  | returnNotTaken (cc : Cond) (hcc : s.cond cc = false) : Runs p s (retCondInstr cc) s
  | returnTaken (cc : Cond) (hcc : s.cond cc = true) :
      Runs p s (retCondInstr cc) (s.popPc.addCycles callTakenExtra)
  | rst (y : Fin 8) : Runs p s (rstInstr y) (s.call (BitVec.ofNat 16 (y.val * 8)))
  | nop : Runs p s .nop s
  | loadA (i : Instr) (x : Word)
      (hi : i ∈ [.ldAMemBC, .ldAMemDE, .ldAMemC, .ldAMemN16 x] ∨ ∃ n, i = .ldhAMemN8 n) :
      Runs p s i (s.setReg .a (s.readByte x))
  | storeA (i : Instr) (x : Word)
      (hi : i ∈ [.ldMemBCA, .ldMemDEA, .ldMemCA, .ldMemN16A x] ∨ ∃ n, i = .ldhMemN8A n) :
      Runs p s i (s.writeByte x s.a)
  | loadStepping (i : Instr) (delta : Word) (hi : i ∈ [.ldAMemHLInc, .ldAMemHLDec]) :
      Runs p s i ((s.setReg .a (s.readByte s.hl)).setHL (s.hl + delta))
  | storeStepping (i : Instr) (delta : Word) (hi : i ∈ [.ldMemHLIncA, .ldMemHLDecA]) :
      Runs p s i ((s.writeByte s.hl s.a).setHL (s.hl + delta))
  | rotateA (i : Instr) (o : RotOp) (hi : i ∈ [.rlca, .rrca, .rla, .rra]) :
      Runs p s i ((s.setReg .a (rotResult o s.a s.flagC).value).setFlags
        { (rotResult o s.a s.flagC).flags with z := false })
  | daa : Runs p s .daa ((s.setReg .a (daaResult s.a s.flags).value).setFlags (daaResult s.a s.flags).flags)
  | cpl : Runs p s .cpl ((s.setReg .a (~~~s.a)).setFlags { z := s.flagZ, n := true, h := true, c := s.flagC })
  | scf : Runs p s .scf (s.setFlags { z := s.flagZ, n := false, h := false, c := true })
  | ccf : Runs p s .ccf (s.setFlags { z := s.flagZ, n := false, h := false, c := !s.flagC })
  | storeSP (n : Word) :
      Runs p s (.ldMemN16SP n) ((s.writeByte n (lowByte s.sp)).writeByte (n + 1) (highByte s.sp))
  | jump (i : Instr) (target : Word) (hi : i = .jpN16 target ∨ i = .jpHL ∨ ∃ e, i = .jrE8 e) :
      Runs p s i (s.jump target)
  | call (n : Word) : Runs p s (.callN16 n) (s.call n)
  | ret : Runs p s .ret s.popPc
  | reti : Runs p s .reti s.returnFromInterrupt
  | prefixCb : Runs p s .prefixCb (({ s with pc := s.pc + 1 }.executeCb (s.readByte s.pc)).addCycles
      (p.cbCost (s.readByte s.pc)))
  | spPlus (i : Instr) (rp : Pair) (e : Byte) (hi : i = .addSPE8 e ∧ rp = .sp ∨ i = .ldHLSPE8 e ∧ rp = .hl) :
      Runs p s i ((s.setPair rp (spPlusE8 s.sp e).value).setFlags (spPlusE8 s.sp e).flags)
  | loadSP : Runs p s .ldSPHL (s.setPair .sp s.hl)
  | armHaltBug (hb : s.ime = false ∧ s.pending p ≠ 0) : Runs p s .halt { s with haltBug := true }
  | halt (hb : ¬(s.ime = false ∧ s.pending p ≠ 0)) : Runs p s .halt { s with halted := true }
  | stop (pad : Byte) : Runs p s (.stop pad) { s with stopped := true }
  | di : Runs p s .di { s with ime := false, imePending := false }
  | ei : Runs p s .ei { s with imePending := true }

/-- The instructions that read no parameter. -/
theorem runs_of_exec_noParams (p : Params) {i : Instr} {s t : State} (hh : i ≠ .halt) (hc : i ≠ .prefixCb)
    (h : exec i s = .next t) : Runs p s i t := by
  induction i using Instr.family_cases
  case load d src =>
    cases d with
    | reg r => rw [exec_loadInstr_reg] at h; cases h; exact .load _ _ (by simp)
    | memHL => cases src with
      | reg r => rw [exec_loadInstr_memHL_reg] at h; cases h; exact .load _ _ (by simp)
      | memHL => exact absurd rfl hh
  case loadImm => rw [exec_loadImmInstr] at h; cases h; exact .loadImm ..
  case alu => rw [exec_aluInstr] at h; cases h; exact .alu ..
  case aluImm => rw [exec_aluImmInstr] at h; cases h; exact .aluImm ..
  case inc => rw [exec_incInstr] at h; cases h; exact .inc ..
  case dec => rw [exec_decInstr] at h; cases h; exact .dec ..
  case rot => rw [exec_rotInstr] at h; cases h; exact .rot ..
  case bit => rw [exec_bitInstr] at h; cases h; exact .bit ..
  case res => rw [exec_resInstr] at h; cases h; exact .res ..
  case set => rw [exec_setInstr] at h; cases h; exact .set ..
  case loadPair => rw [exec_loadPairInstr] at h; cases h; exact .loadPair ..
  case addHL => rw [exec_addHLInstr] at h; cases h; exact .addHL ..
  case incPair => rw [exec_incPairInstr] at h; cases h; exact .incPair ..
  case decPair => rw [exec_decPairInstr] at h; cases h; exact .decPair ..
  case push => rw [exec_pushInstr] at h; cases h; exact .push ..
  case pop => rw [exec_popInstr] at h; cases h; exact .pop ..
  case jumpCond cc n =>
    rw [exec_jumpCondInstr, jumpIf] at h
    cases hc : s.cond cc <;> rw [hc] at h <;> cases h
    · exact .jumpNotTaken _ _ hc
    · exact .jumpTaken _ _ hc
  case jumpRelCond cc e =>
    rw [exec_jumpRelCondInstr, jumpIf] at h
    cases hc : s.cond cc <;> rw [hc] at h <;> cases h
    · exact .relativeNotTaken _ _ hc
    · exact .relativeTaken _ _ hc
  case callCond cc n =>
    rw [exec_callCondInstr, callIf] at h
    cases hc : s.cond cc <;> rw [hc] at h <;> cases h
    · exact .callNotTaken _ _ hc
    · exact .callTaken _ _ hc
  case retCond cc =>
    rw [exec_retCondInstr, returnIf] at h
    cases hc : s.cond cc <;> rw [hc] at h <;> cases h
    · exact .returnNotTaken _ hc
    · exact .returnTaken _ hc
  case rst => rw [exec_rstInstr] at h; cases h; exact .rst ..
  case illegal i hi =>
    obtain ⟨op, -, he⟩ := exec_illegal hi s
    rw [he] at h; cases h
  case of_cpl => cases h; simpa [State.setFlag, State.flags] using Runs.cpl (s := s)
  case of_scf => cases h; simpa [State.setFlag, State.flags] using Runs.scf (s := s)
  case of_ccf => cases h; simpa [State.setFlag, State.flags] using Runs.ccf (s := s)
  case of_prefixCb => exact absurd rfl hc
  all_goals cases h
  case of_nop => exact .nop
  case of_rlca => exact .rotateA _ .rlc (by simp)
  case of_rrca => exact .rotateA _ .rrc (by simp)
  case of_rla => exact .rotateA _ .rl (by simp)
  case of_rra => exact .rotateA _ .rr (by simp)
  case of_daa => exact .daa
  case of_stop => exact .stop ..
  case of_ldMemN16SP => exact .storeSP ..
  case of_ret => exact .ret
  case of_reti => exact .reti
  case of_callN16 => exact .call ..
  case of_addSPE8 e => exact .spPlus _ .sp e (.inl ⟨rfl, rfl⟩)
  case of_ldHLSPE8 e => exact .spPlus _ .hl e (.inr ⟨rfl, rfl⟩)
  case of_ldSPHL => exact .loadSP
  case of_di => exact .di
  case of_ei => exact .ei
  case of_jpN16 n => exact .jump _ _ (.inl rfl)
  case of_jpHL => exact .jump _ _ (.inr (.inl rfl))
  case of_jrE8 e => exact .jump _ _ (.inr (.inr ⟨e, rfl⟩))
  case of_ldMemBCA => exact .storeA _ _ (.inl (by simp))
  case of_ldMemDEA => exact .storeA _ _ (.inl (by simp))
  case of_ldMemCA => exact .storeA _ _ (.inl (by simp))
  case of_ldMemN16A => exact .storeA _ _ (.inl (by simp))
  case of_ldhMemN8A n => exact .storeA _ _ (.inr ⟨n, rfl⟩)
  case of_ldAMemBC => exact .loadA _ _ (.inl (by simp))
  case of_ldAMemDE => exact .loadA _ _ (.inl (by simp))
  case of_ldAMemC => exact .loadA _ _ (.inl (by simp))
  case of_ldAMemN16 => exact .loadA _ _ (.inl (by simp))
  case of_ldhAMemN8 n => exact .loadA _ _ (.inr ⟨n, rfl⟩)
  case of_ldMemHLIncA => exact .storeStepping _ _ (by simp)
  case of_ldMemHLDecA => exact .storeStepping _ _ (by simp)
  case of_ldAMemHLInc => exact .loadStepping _ _ (by simp)
  case of_ldAMemHLDec => exact .loadStepping _ _ (by simp)

/-- Every next state that `execWith p` answers is one of those. -/
theorem runs_of_execWith {p : Params} {i : Instr} {s t : State} (h : execWith p i s = .next t) : Runs p s i t := by
  by_cases hh : i = .halt
  · subst hh
    rw [execWith_halt, haltWith] at h
    split at h <;> cases h
    · exact .armHaltBug ‹_›
    · exact .halt ‹_›
  · by_cases hc : i = .prefixCb
    · subst hc
      rw [execWith_prefixCb, prefixCbWith] at h
      cases h
      exact .prefixCb
    · exact runs_of_exec_noParams p hh hc (execWith_eq_exec p hh hc s ▸ h)

/-- The same for `exec`, which runs at the defaults. -/
theorem runs_of_exec {i : Instr} {s t : State} (h : exec i s = .next t) : Runs engineParams s i t :=
  runs_of_execWith (by rw [execWith_engineParams, h])

end Sys2Proof.Machine
end

