-- ==== Sys2Proof/Laws/Frames.lean ====
section
/-! SUPPORT. All that each shared operation does, in the frame vocabulary of Safety.lean: what it writes and what it leaves. -/

namespace Sys2Proof.Machine

/-! ## Operand writes and flags -/

/-- `r8[d] <- v` writes its operand and nothing else. -/
theorem storesTo_writeOperand (d : Operand8) (v : Byte) (s : State) : storesTo d v s (s.writeOperand d v) := by
  cases d with
  | reg r =>
    cases r <;>
      simp [storesTo, State.writeOperand, State.setReg, State.getReg, regsSame, memSame, State.readByte] <;>
      (intro r hr; cases r <;> simp_all)
  | memHL =>
    exact ⟨State.readByte_writeByte_self .., fun r _ => State.getReg_writeByte .., fun x hx =>
      State.readByte_writeByte_ne _ _ (by simpa using hx)⟩

/-- An operand write with flags writes its operand, F and nothing else. -/
theorem storesTo_writeOperand_setFlags (d : Operand8) (v : Byte) (fl : FlagBits) (s : State) :
    storesTo d v s ((s.writeOperand d v).setFlags fl) := by
  have h := storesTo_writeOperand d v s
  cases d with
  | reg r => exact ⟨by simpa using h.1, fun r hr => by simpa using h.2.1 r hr, fun x hx => by simpa using h.2.2 x hx⟩
  | memHL => exact ⟨by simpa using h.1, fun r hr => by simpa using h.2.1 r hr, fun x hx => by simpa using h.2.2 x hx⟩

theorem writeOperand_keeps (d : Operand8) (v : Byte) (s : State) :
    flagsSame s (s.writeOperand d v) ∧ (s.writeOperand d v).sp = s.sp ∧ controlSame s (s.writeOperand d v) := by
  simp [flagsSame, controlSame, engineSame, State.readF]

theorem writeOperand_setFlags_keeps (d : Operand8) (v : Byte) (fl : FlagBits) (s : State) :
    ((s.writeOperand d v).setFlags fl).sp = s.sp ∧ controlSame s ((s.writeOperand d v).setFlags fl) := by
  simp [controlSame, engineSame]

theorem flagsAre_setFlags (s : State) (fl : FlagBits) : flagsAre (s.setFlags fl) fl.z fl.n fl.h fl.c := by
  simp only [flagsAre, State.setFlags_flagZ, State.setFlags_flagN, State.setFlags_flagH, State.setFlags_flagC,
    true_and]
  exact State.pack_low_nibble fl

/-- An accumulator operation changes A, F and nothing else. -/
theorem accumulate_keeps (s : State) (o : AluOp) (src : Byte) :
    regsSame [.a] s (s.accumulate o src) ∧ memSame [] s (s.accumulate o src) ∧
      (s.accumulate o src).sp = s.sp ∧ controlSame s (s.accumulate o src) := by
  refine ⟨?_, ?_⟩
  · intro r hr
    cases o <;> cases r <;> simp_all [State.accumulate, State.getReg, State.setReg]
  · cases o <;> simp [State.accumulate, memSame, controlSame, engineSame]

/-! ## The stack and control transfer -/

/-- `Push16(v)` pushes `v` and changes nothing else (`20_memory.md` R57). -/
theorem pushed_push16 (s : State) (v : Word) :
    pushed v s (s.push16 v) ∧ regsSame [] s (s.push16 v) ∧ flagsSame s (s.push16 v) ∧
      controlSame s (s.push16 v) := by
  have := State.word_sub_one_ne_sub_two s.sp
  simp [pushed, memSame, controlSame, engineSame, flagsSame, State.readF, regsSame, State.readByte_push16]
  intro x h1 h2
  rw [if_neg h2, if_neg h1]

/-- A jump with extra cycles. -/
theorem jumpsTo_jump (s : State) (target : Word) (n : Nat) :
    jumpsTo target n s ((s.jump target).addCycles n) := by
  simp [jumpsTo, memSame, engineSame, flagsSame, State.readF]
  exact fun _ _ => by simp

/-- A call with extra cycles. -/
theorem callsTo_call (s : State) (target : Word) (n : Nat) :
    callsTo target n s ((s.call target).addCycles n) := by
  have h := pushed_push16 s s.pc
  simp [callsTo, pushed, memSame, engineSame, controlSame, flagsSame, State.readF, State.readByte_call,
    State.readByte_push16, regsSame] at *
  intro x h1 h2
  rw [if_neg h2, if_neg h1]

/-- A return with extra cycles. -/
theorem returnsFrom_popPc (s : State) (n : Nat) :
    returnsFrom n s (s.popPc.addCycles n) ∧ engineSame s (s.popPc.addCycles n) := by
  simp [returnsFrom, State.stackTop, topOfStack, State.popPc, State.dropTop, memSame, engineSame, flagsSame,
    State.readF, regsSame, State.readByte, State.addCycles, State.jump, State.getReg]

/-- The target of a relative jump on exact numbers (`46_control.md` R204). -/
theorem sext16_toNat (e : Byte) : (sext16 e).toNat = e.toNat + (if e.toNat < 128 then 0 else 65280) := by
  revert e; decide +kernel

/-- At the default CYCLE_COST every cost is positive and at most 24, its extra included. -/
theorem costsWithin_engineParams : costsWithin engineParams 24 := by
  intro i h
  cases i <;> first
    | exact absurd h Bool.noConfusion
    | exact ⟨Nat.le_of_ble_eq_true rfl, Nat.le_of_ble_eq_true rfl⟩

/-! ## Bytes -/

/-- To prove a property of every byte, prove it of the 256 literals. -/
theorem byte_cases {P : Byte → Prop} (h : ∀ n < 256, P (BitVec.ofNat 8 n)) (b : Byte) : P b := by
  have := h b.toNat b.isLt
  simpa using this

/-- A cleared request bit, the others kept (`60_exceptions.md` R245). -/
theorem clearRequest_bit (i : Fin 5) (v : Byte) : ∀ k : Fin 8,
    (clearRequest i v).getLsbD k.val = if k.val = i.val then false else v.getLsbD k.val := by
  revert i v; decide +kernel

end Sys2Proof.Machine
end

