-- ==== Sys2Proof/Laws/PerInstr.lean ====
section
/-! SUPPORT. A property of every instruction as syntax, one lemma a constructor: how many bytes its encoding has. -/

namespace Sys2Proof.Laws.EncodedLength

/-- The encoding has one to three bytes, and as many as its first byte alone fixes (`30_encoding.md` R70); the bare
prefix 0xCB, one byte, is the exception, since its second byte is fetched by its handler (R106). -/
def Statement (i : Instr) : Prop :=
  1 ≤ (encode i).length ∧ (encode i).length ≤ 3 ∧
    (i.selfContained = true → opcodeLength .two ((encode i).headD 0) = (encode i).length)

theorem ldBCN16 (n : Word) : Statement (.ldBCN16 n) := ⟨Nat.le_of_ble_eq_true rfl, Nat.le_of_ble_eq_true rfl, fun _ => (by decide : opcodeLength .two 0x01 = 3)⟩
theorem ldBN8 (n : Byte) : Statement (.ldBN8 n) := ⟨Nat.le_of_ble_eq_true rfl, Nat.le_of_ble_eq_true rfl, fun _ => (by decide : opcodeLength .two 0x06 = 2)⟩
theorem ldMemN16SP (n : Word) : Statement (.ldMemN16SP n) := ⟨Nat.le_of_ble_eq_true rfl, Nat.le_of_ble_eq_true rfl, fun _ => (by decide : opcodeLength .two 0x08 = 3)⟩
theorem ldCN8 (n : Byte) : Statement (.ldCN8 n) := ⟨Nat.le_of_ble_eq_true rfl, Nat.le_of_ble_eq_true rfl, fun _ => (by decide : opcodeLength .two 0x0E = 2)⟩
theorem stop (pad : Byte) : Statement (.stop pad) := ⟨Nat.le_of_ble_eq_true rfl, Nat.le_of_ble_eq_true rfl, fun _ => (by decide : opcodeLength .two 0x10 = 2)⟩
theorem ldDEN16 (n : Word) : Statement (.ldDEN16 n) := ⟨Nat.le_of_ble_eq_true rfl, Nat.le_of_ble_eq_true rfl, fun _ => (by decide : opcodeLength .two 0x11 = 3)⟩
theorem ldDN8 (n : Byte) : Statement (.ldDN8 n) := ⟨Nat.le_of_ble_eq_true rfl, Nat.le_of_ble_eq_true rfl, fun _ => (by decide : opcodeLength .two 0x16 = 2)⟩
theorem jrE8 (e : Byte) : Statement (.jrE8 e) := ⟨Nat.le_of_ble_eq_true rfl, Nat.le_of_ble_eq_true rfl, fun _ => (by decide : opcodeLength .two 0x18 = 2)⟩
theorem ldEN8 (n : Byte) : Statement (.ldEN8 n) := ⟨Nat.le_of_ble_eq_true rfl, Nat.le_of_ble_eq_true rfl, fun _ => (by decide : opcodeLength .two 0x1E = 2)⟩
theorem jrNZE8 (e : Byte) : Statement (.jrNZE8 e) := ⟨Nat.le_of_ble_eq_true rfl, Nat.le_of_ble_eq_true rfl, fun _ => (by decide : opcodeLength .two 0x20 = 2)⟩
theorem ldHLN16 (n : Word) : Statement (.ldHLN16 n) := ⟨Nat.le_of_ble_eq_true rfl, Nat.le_of_ble_eq_true rfl, fun _ => (by decide : opcodeLength .two 0x21 = 3)⟩
theorem ldHN8 (n : Byte) : Statement (.ldHN8 n) := ⟨Nat.le_of_ble_eq_true rfl, Nat.le_of_ble_eq_true rfl, fun _ => (by decide : opcodeLength .two 0x26 = 2)⟩
theorem jrZE8 (e : Byte) : Statement (.jrZE8 e) := ⟨Nat.le_of_ble_eq_true rfl, Nat.le_of_ble_eq_true rfl, fun _ => (by decide : opcodeLength .two 0x28 = 2)⟩
theorem ldLN8 (n : Byte) : Statement (.ldLN8 n) := ⟨Nat.le_of_ble_eq_true rfl, Nat.le_of_ble_eq_true rfl, fun _ => (by decide : opcodeLength .two 0x2E = 2)⟩
theorem jrNCE8 (e : Byte) : Statement (.jrNCE8 e) := ⟨Nat.le_of_ble_eq_true rfl, Nat.le_of_ble_eq_true rfl, fun _ => (by decide : opcodeLength .two 0x30 = 2)⟩
theorem ldSPN16 (n : Word) : Statement (.ldSPN16 n) := ⟨Nat.le_of_ble_eq_true rfl, Nat.le_of_ble_eq_true rfl, fun _ => (by decide : opcodeLength .two 0x31 = 3)⟩
theorem ldMemHLN8 (n : Byte) : Statement (.ldMemHLN8 n) := ⟨Nat.le_of_ble_eq_true rfl, Nat.le_of_ble_eq_true rfl, fun _ => (by decide : opcodeLength .two 0x36 = 2)⟩
theorem jrCE8 (e : Byte) : Statement (.jrCE8 e) := ⟨Nat.le_of_ble_eq_true rfl, Nat.le_of_ble_eq_true rfl, fun _ => (by decide : opcodeLength .two 0x38 = 2)⟩
theorem ldAN8 (n : Byte) : Statement (.ldAN8 n) := ⟨Nat.le_of_ble_eq_true rfl, Nat.le_of_ble_eq_true rfl, fun _ => (by decide : opcodeLength .two 0x3E = 2)⟩
theorem jpNZN16 (n : Word) : Statement (.jpNZN16 n) := ⟨Nat.le_of_ble_eq_true rfl, Nat.le_of_ble_eq_true rfl, fun _ => (by decide : opcodeLength .two 0xC2 = 3)⟩
theorem jpN16 (n : Word) : Statement (.jpN16 n) := ⟨Nat.le_of_ble_eq_true rfl, Nat.le_of_ble_eq_true rfl, fun _ => (by decide : opcodeLength .two 0xC3 = 3)⟩
theorem callNZN16 (n : Word) : Statement (.callNZN16 n) := ⟨Nat.le_of_ble_eq_true rfl, Nat.le_of_ble_eq_true rfl, fun _ => (by decide : opcodeLength .two 0xC4 = 3)⟩
theorem addAN8 (n : Byte) : Statement (.addAN8 n) := ⟨Nat.le_of_ble_eq_true rfl, Nat.le_of_ble_eq_true rfl, fun _ => (by decide : opcodeLength .two 0xC6 = 2)⟩
theorem jpZN16 (n : Word) : Statement (.jpZN16 n) := ⟨Nat.le_of_ble_eq_true rfl, Nat.le_of_ble_eq_true rfl, fun _ => (by decide : opcodeLength .two 0xCA = 3)⟩
theorem callZN16 (n : Word) : Statement (.callZN16 n) := ⟨Nat.le_of_ble_eq_true rfl, Nat.le_of_ble_eq_true rfl, fun _ => (by decide : opcodeLength .two 0xCC = 3)⟩
theorem callN16 (n : Word) : Statement (.callN16 n) := ⟨Nat.le_of_ble_eq_true rfl, Nat.le_of_ble_eq_true rfl, fun _ => (by decide : opcodeLength .two 0xCD = 3)⟩
theorem adcAN8 (n : Byte) : Statement (.adcAN8 n) := ⟨Nat.le_of_ble_eq_true rfl, Nat.le_of_ble_eq_true rfl, fun _ => (by decide : opcodeLength .two 0xCE = 2)⟩
theorem jpNCN16 (n : Word) : Statement (.jpNCN16 n) := ⟨Nat.le_of_ble_eq_true rfl, Nat.le_of_ble_eq_true rfl, fun _ => (by decide : opcodeLength .two 0xD2 = 3)⟩
theorem callNCN16 (n : Word) : Statement (.callNCN16 n) := ⟨Nat.le_of_ble_eq_true rfl, Nat.le_of_ble_eq_true rfl, fun _ => (by decide : opcodeLength .two 0xD4 = 3)⟩
theorem subAN8 (n : Byte) : Statement (.subAN8 n) := ⟨Nat.le_of_ble_eq_true rfl, Nat.le_of_ble_eq_true rfl, fun _ => (by decide : opcodeLength .two 0xD6 = 2)⟩
theorem jpCN16 (n : Word) : Statement (.jpCN16 n) := ⟨Nat.le_of_ble_eq_true rfl, Nat.le_of_ble_eq_true rfl, fun _ => (by decide : opcodeLength .two 0xDA = 3)⟩
theorem callCN16 (n : Word) : Statement (.callCN16 n) := ⟨Nat.le_of_ble_eq_true rfl, Nat.le_of_ble_eq_true rfl, fun _ => (by decide : opcodeLength .two 0xDC = 3)⟩
theorem sbcAN8 (n : Byte) : Statement (.sbcAN8 n) := ⟨Nat.le_of_ble_eq_true rfl, Nat.le_of_ble_eq_true rfl, fun _ => (by decide : opcodeLength .two 0xDE = 2)⟩
theorem ldhMemN8A (n : Byte) : Statement (.ldhMemN8A n) := ⟨Nat.le_of_ble_eq_true rfl, Nat.le_of_ble_eq_true rfl, fun _ => (by decide : opcodeLength .two 0xE0 = 2)⟩
theorem andAN8 (n : Byte) : Statement (.andAN8 n) := ⟨Nat.le_of_ble_eq_true rfl, Nat.le_of_ble_eq_true rfl, fun _ => (by decide : opcodeLength .two 0xE6 = 2)⟩
theorem addSPE8 (e : Byte) : Statement (.addSPE8 e) := ⟨Nat.le_of_ble_eq_true rfl, Nat.le_of_ble_eq_true rfl, fun _ => (by decide : opcodeLength .two 0xE8 = 2)⟩
theorem ldMemN16A (n : Word) : Statement (.ldMemN16A n) := ⟨Nat.le_of_ble_eq_true rfl, Nat.le_of_ble_eq_true rfl, fun _ => (by decide : opcodeLength .two 0xEA = 3)⟩
theorem xorAN8 (n : Byte) : Statement (.xorAN8 n) := ⟨Nat.le_of_ble_eq_true rfl, Nat.le_of_ble_eq_true rfl, fun _ => (by decide : opcodeLength .two 0xEE = 2)⟩
theorem ldhAMemN8 (n : Byte) : Statement (.ldhAMemN8 n) := ⟨Nat.le_of_ble_eq_true rfl, Nat.le_of_ble_eq_true rfl, fun _ => (by decide : opcodeLength .two 0xF0 = 2)⟩
theorem orAN8 (n : Byte) : Statement (.orAN8 n) := ⟨Nat.le_of_ble_eq_true rfl, Nat.le_of_ble_eq_true rfl, fun _ => (by decide : opcodeLength .two 0xF6 = 2)⟩
theorem ldHLSPE8 (e : Byte) : Statement (.ldHLSPE8 e) := ⟨Nat.le_of_ble_eq_true rfl, Nat.le_of_ble_eq_true rfl, fun _ => (by decide : opcodeLength .two 0xF8 = 2)⟩
theorem ldAMemN16 (n : Word) : Statement (.ldAMemN16 n) := ⟨Nat.le_of_ble_eq_true rfl, Nat.le_of_ble_eq_true rfl, fun _ => (by decide : opcodeLength .two 0xFA = 3)⟩
theorem cpAN8 (n : Byte) : Statement (.cpAN8 n) := ⟨Nat.le_of_ble_eq_true rfl, Nat.le_of_ble_eq_true rfl, fun _ => (by decide : opcodeLength .two 0xFE = 2)⟩
theorem nop : Statement .nop := ⟨by decide, by decide, fun _ => rfl⟩
theorem ldMemBCA : Statement .ldMemBCA := ⟨by decide, by decide, fun _ => rfl⟩
theorem incBC : Statement .incBC := ⟨by decide, by decide, fun _ => rfl⟩
theorem incB : Statement .incB := ⟨by decide, by decide, fun _ => rfl⟩
theorem decB : Statement .decB := ⟨by decide, by decide, fun _ => rfl⟩
theorem rlca : Statement .rlca := ⟨by decide, by decide, fun _ => rfl⟩
theorem addHLBC : Statement .addHLBC := ⟨by decide, by decide, fun _ => rfl⟩
theorem ldAMemBC : Statement .ldAMemBC := ⟨by decide, by decide, fun _ => rfl⟩
theorem decBC : Statement .decBC := ⟨by decide, by decide, fun _ => rfl⟩
theorem incC : Statement .incC := ⟨by decide, by decide, fun _ => rfl⟩
theorem decC : Statement .decC := ⟨by decide, by decide, fun _ => rfl⟩
theorem rrca : Statement .rrca := ⟨by decide, by decide, fun _ => rfl⟩
theorem ldMemDEA : Statement .ldMemDEA := ⟨by decide, by decide, fun _ => rfl⟩
theorem incDE : Statement .incDE := ⟨by decide, by decide, fun _ => rfl⟩
theorem incD : Statement .incD := ⟨by decide, by decide, fun _ => rfl⟩
theorem decD : Statement .decD := ⟨by decide, by decide, fun _ => rfl⟩
theorem rla : Statement .rla := ⟨by decide, by decide, fun _ => rfl⟩
theorem addHLDE : Statement .addHLDE := ⟨by decide, by decide, fun _ => rfl⟩
theorem ldAMemDE : Statement .ldAMemDE := ⟨by decide, by decide, fun _ => rfl⟩
theorem decDE : Statement .decDE := ⟨by decide, by decide, fun _ => rfl⟩
theorem incE : Statement .incE := ⟨by decide, by decide, fun _ => rfl⟩
theorem decE : Statement .decE := ⟨by decide, by decide, fun _ => rfl⟩
theorem rra : Statement .rra := ⟨by decide, by decide, fun _ => rfl⟩
theorem ldMemHLIncA : Statement .ldMemHLIncA := ⟨by decide, by decide, fun _ => rfl⟩
theorem incHL : Statement .incHL := ⟨by decide, by decide, fun _ => rfl⟩
theorem incH : Statement .incH := ⟨by decide, by decide, fun _ => rfl⟩
theorem decH : Statement .decH := ⟨by decide, by decide, fun _ => rfl⟩
theorem daa : Statement .daa := ⟨by decide, by decide, fun _ => rfl⟩
theorem addHLHL : Statement .addHLHL := ⟨by decide, by decide, fun _ => rfl⟩
theorem ldAMemHLInc : Statement .ldAMemHLInc := ⟨by decide, by decide, fun _ => rfl⟩
theorem decHL : Statement .decHL := ⟨by decide, by decide, fun _ => rfl⟩
theorem incL : Statement .incL := ⟨by decide, by decide, fun _ => rfl⟩
theorem decL : Statement .decL := ⟨by decide, by decide, fun _ => rfl⟩
theorem cpl : Statement .cpl := ⟨by decide, by decide, fun _ => rfl⟩
theorem ldMemHLDecA : Statement .ldMemHLDecA := ⟨by decide, by decide, fun _ => rfl⟩
theorem incSP : Statement .incSP := ⟨by decide, by decide, fun _ => rfl⟩
theorem incMemHL : Statement .incMemHL := ⟨by decide, by decide, fun _ => rfl⟩
theorem decMemHL : Statement .decMemHL := ⟨by decide, by decide, fun _ => rfl⟩
theorem scf : Statement .scf := ⟨by decide, by decide, fun _ => rfl⟩
theorem addHLSP : Statement .addHLSP := ⟨by decide, by decide, fun _ => rfl⟩
theorem ldAMemHLDec : Statement .ldAMemHLDec := ⟨by decide, by decide, fun _ => rfl⟩
theorem decSP : Statement .decSP := ⟨by decide, by decide, fun _ => rfl⟩
theorem incA : Statement .incA := ⟨by decide, by decide, fun _ => rfl⟩
theorem decA : Statement .decA := ⟨by decide, by decide, fun _ => rfl⟩
theorem ccf : Statement .ccf := ⟨by decide, by decide, fun _ => rfl⟩
theorem ldBB : Statement .ldBB := ⟨by decide, by decide, fun _ => rfl⟩
theorem ldBC : Statement .ldBC := ⟨by decide, by decide, fun _ => rfl⟩
theorem ldBD : Statement .ldBD := ⟨by decide, by decide, fun _ => rfl⟩
theorem ldBE : Statement .ldBE := ⟨by decide, by decide, fun _ => rfl⟩
theorem ldBH : Statement .ldBH := ⟨by decide, by decide, fun _ => rfl⟩
theorem ldBL : Statement .ldBL := ⟨by decide, by decide, fun _ => rfl⟩
theorem ldBMemHL : Statement .ldBMemHL := ⟨by decide, by decide, fun _ => rfl⟩
theorem ldBA : Statement .ldBA := ⟨by decide, by decide, fun _ => rfl⟩
theorem ldCB : Statement .ldCB := ⟨by decide, by decide, fun _ => rfl⟩
theorem ldCC : Statement .ldCC := ⟨by decide, by decide, fun _ => rfl⟩
theorem ldCD : Statement .ldCD := ⟨by decide, by decide, fun _ => rfl⟩
theorem ldCE : Statement .ldCE := ⟨by decide, by decide, fun _ => rfl⟩
theorem ldCH : Statement .ldCH := ⟨by decide, by decide, fun _ => rfl⟩
theorem ldCL : Statement .ldCL := ⟨by decide, by decide, fun _ => rfl⟩
theorem ldCMemHL : Statement .ldCMemHL := ⟨by decide, by decide, fun _ => rfl⟩
theorem ldCA : Statement .ldCA := ⟨by decide, by decide, fun _ => rfl⟩
theorem ldDB : Statement .ldDB := ⟨by decide, by decide, fun _ => rfl⟩
theorem ldDC : Statement .ldDC := ⟨by decide, by decide, fun _ => rfl⟩
theorem ldDD : Statement .ldDD := ⟨by decide, by decide, fun _ => rfl⟩
theorem ldDE : Statement .ldDE := ⟨by decide, by decide, fun _ => rfl⟩
theorem ldDH : Statement .ldDH := ⟨by decide, by decide, fun _ => rfl⟩
theorem ldDL : Statement .ldDL := ⟨by decide, by decide, fun _ => rfl⟩
theorem ldDMemHL : Statement .ldDMemHL := ⟨by decide, by decide, fun _ => rfl⟩
theorem ldDA : Statement .ldDA := ⟨by decide, by decide, fun _ => rfl⟩
theorem ldEB : Statement .ldEB := ⟨by decide, by decide, fun _ => rfl⟩
theorem ldEC : Statement .ldEC := ⟨by decide, by decide, fun _ => rfl⟩
theorem ldED : Statement .ldED := ⟨by decide, by decide, fun _ => rfl⟩
theorem ldEE : Statement .ldEE := ⟨by decide, by decide, fun _ => rfl⟩
theorem ldEH : Statement .ldEH := ⟨by decide, by decide, fun _ => rfl⟩
theorem ldEL : Statement .ldEL := ⟨by decide, by decide, fun _ => rfl⟩
theorem ldEMemHL : Statement .ldEMemHL := ⟨by decide, by decide, fun _ => rfl⟩
theorem ldEA : Statement .ldEA := ⟨by decide, by decide, fun _ => rfl⟩
theorem ldHB : Statement .ldHB := ⟨by decide, by decide, fun _ => rfl⟩
theorem ldHC : Statement .ldHC := ⟨by decide, by decide, fun _ => rfl⟩
theorem ldHD : Statement .ldHD := ⟨by decide, by decide, fun _ => rfl⟩
theorem ldHE : Statement .ldHE := ⟨by decide, by decide, fun _ => rfl⟩
theorem ldHH : Statement .ldHH := ⟨by decide, by decide, fun _ => rfl⟩
theorem ldHL : Statement .ldHL := ⟨by decide, by decide, fun _ => rfl⟩
theorem ldHMemHL : Statement .ldHMemHL := ⟨by decide, by decide, fun _ => rfl⟩
theorem ldHA : Statement .ldHA := ⟨by decide, by decide, fun _ => rfl⟩
theorem ldLB : Statement .ldLB := ⟨by decide, by decide, fun _ => rfl⟩
theorem ldLC : Statement .ldLC := ⟨by decide, by decide, fun _ => rfl⟩
theorem ldLD : Statement .ldLD := ⟨by decide, by decide, fun _ => rfl⟩
theorem ldLE : Statement .ldLE := ⟨by decide, by decide, fun _ => rfl⟩
theorem ldLH : Statement .ldLH := ⟨by decide, by decide, fun _ => rfl⟩
theorem ldLL : Statement .ldLL := ⟨by decide, by decide, fun _ => rfl⟩
theorem ldLMemHL : Statement .ldLMemHL := ⟨by decide, by decide, fun _ => rfl⟩
theorem ldLA : Statement .ldLA := ⟨by decide, by decide, fun _ => rfl⟩
theorem ldMemHLB : Statement .ldMemHLB := ⟨by decide, by decide, fun _ => rfl⟩
theorem ldMemHLC : Statement .ldMemHLC := ⟨by decide, by decide, fun _ => rfl⟩
theorem ldMemHLD : Statement .ldMemHLD := ⟨by decide, by decide, fun _ => rfl⟩
theorem ldMemHLE : Statement .ldMemHLE := ⟨by decide, by decide, fun _ => rfl⟩
theorem ldMemHLH : Statement .ldMemHLH := ⟨by decide, by decide, fun _ => rfl⟩
theorem ldMemHLL : Statement .ldMemHLL := ⟨by decide, by decide, fun _ => rfl⟩
theorem halt : Statement .halt := ⟨by decide, by decide, fun _ => rfl⟩
theorem ldMemHLA : Statement .ldMemHLA := ⟨by decide, by decide, fun _ => rfl⟩
theorem ldAB : Statement .ldAB := ⟨by decide, by decide, fun _ => rfl⟩
theorem ldAC : Statement .ldAC := ⟨by decide, by decide, fun _ => rfl⟩
theorem ldAD : Statement .ldAD := ⟨by decide, by decide, fun _ => rfl⟩
theorem ldAE : Statement .ldAE := ⟨by decide, by decide, fun _ => rfl⟩
theorem ldAH : Statement .ldAH := ⟨by decide, by decide, fun _ => rfl⟩
theorem ldAL : Statement .ldAL := ⟨by decide, by decide, fun _ => rfl⟩
theorem ldAMemHL : Statement .ldAMemHL := ⟨by decide, by decide, fun _ => rfl⟩
theorem ldAA : Statement .ldAA := ⟨by decide, by decide, fun _ => rfl⟩
theorem addAB : Statement .addAB := ⟨by decide, by decide, fun _ => rfl⟩
theorem addAC : Statement .addAC := ⟨by decide, by decide, fun _ => rfl⟩
theorem addAD : Statement .addAD := ⟨by decide, by decide, fun _ => rfl⟩
theorem addAE : Statement .addAE := ⟨by decide, by decide, fun _ => rfl⟩
theorem addAH : Statement .addAH := ⟨by decide, by decide, fun _ => rfl⟩
theorem addAL : Statement .addAL := ⟨by decide, by decide, fun _ => rfl⟩
theorem addAMemHL : Statement .addAMemHL := ⟨by decide, by decide, fun _ => rfl⟩
theorem addAA : Statement .addAA := ⟨by decide, by decide, fun _ => rfl⟩
theorem adcAB : Statement .adcAB := ⟨by decide, by decide, fun _ => rfl⟩
theorem adcAC : Statement .adcAC := ⟨by decide, by decide, fun _ => rfl⟩
theorem adcAD : Statement .adcAD := ⟨by decide, by decide, fun _ => rfl⟩
theorem adcAE : Statement .adcAE := ⟨by decide, by decide, fun _ => rfl⟩
theorem adcAH : Statement .adcAH := ⟨by decide, by decide, fun _ => rfl⟩
theorem adcAL : Statement .adcAL := ⟨by decide, by decide, fun _ => rfl⟩
theorem adcAMemHL : Statement .adcAMemHL := ⟨by decide, by decide, fun _ => rfl⟩
theorem adcAA : Statement .adcAA := ⟨by decide, by decide, fun _ => rfl⟩
theorem subAB : Statement .subAB := ⟨by decide, by decide, fun _ => rfl⟩
theorem subAC : Statement .subAC := ⟨by decide, by decide, fun _ => rfl⟩
theorem subAD : Statement .subAD := ⟨by decide, by decide, fun _ => rfl⟩
theorem subAE : Statement .subAE := ⟨by decide, by decide, fun _ => rfl⟩
theorem subAH : Statement .subAH := ⟨by decide, by decide, fun _ => rfl⟩
theorem subAL : Statement .subAL := ⟨by decide, by decide, fun _ => rfl⟩
theorem subAMemHL : Statement .subAMemHL := ⟨by decide, by decide, fun _ => rfl⟩
theorem subAA : Statement .subAA := ⟨by decide, by decide, fun _ => rfl⟩
theorem sbcAB : Statement .sbcAB := ⟨by decide, by decide, fun _ => rfl⟩
theorem sbcAC : Statement .sbcAC := ⟨by decide, by decide, fun _ => rfl⟩
theorem sbcAD : Statement .sbcAD := ⟨by decide, by decide, fun _ => rfl⟩
theorem sbcAE : Statement .sbcAE := ⟨by decide, by decide, fun _ => rfl⟩
theorem sbcAH : Statement .sbcAH := ⟨by decide, by decide, fun _ => rfl⟩
theorem sbcAL : Statement .sbcAL := ⟨by decide, by decide, fun _ => rfl⟩
theorem sbcAMemHL : Statement .sbcAMemHL := ⟨by decide, by decide, fun _ => rfl⟩
theorem sbcAA : Statement .sbcAA := ⟨by decide, by decide, fun _ => rfl⟩
theorem andAB : Statement .andAB := ⟨by decide, by decide, fun _ => rfl⟩
theorem andAC : Statement .andAC := ⟨by decide, by decide, fun _ => rfl⟩
theorem andAD : Statement .andAD := ⟨by decide, by decide, fun _ => rfl⟩
theorem andAE : Statement .andAE := ⟨by decide, by decide, fun _ => rfl⟩
theorem andAH : Statement .andAH := ⟨by decide, by decide, fun _ => rfl⟩
theorem andAL : Statement .andAL := ⟨by decide, by decide, fun _ => rfl⟩
theorem andAMemHL : Statement .andAMemHL := ⟨by decide, by decide, fun _ => rfl⟩
theorem andAA : Statement .andAA := ⟨by decide, by decide, fun _ => rfl⟩
theorem xorAB : Statement .xorAB := ⟨by decide, by decide, fun _ => rfl⟩
theorem xorAC : Statement .xorAC := ⟨by decide, by decide, fun _ => rfl⟩
theorem xorAD : Statement .xorAD := ⟨by decide, by decide, fun _ => rfl⟩
theorem xorAE : Statement .xorAE := ⟨by decide, by decide, fun _ => rfl⟩
theorem xorAH : Statement .xorAH := ⟨by decide, by decide, fun _ => rfl⟩
theorem xorAL : Statement .xorAL := ⟨by decide, by decide, fun _ => rfl⟩
theorem xorAMemHL : Statement .xorAMemHL := ⟨by decide, by decide, fun _ => rfl⟩
theorem xorAA : Statement .xorAA := ⟨by decide, by decide, fun _ => rfl⟩
theorem orAB : Statement .orAB := ⟨by decide, by decide, fun _ => rfl⟩
theorem orAC : Statement .orAC := ⟨by decide, by decide, fun _ => rfl⟩
theorem orAD : Statement .orAD := ⟨by decide, by decide, fun _ => rfl⟩
theorem orAE : Statement .orAE := ⟨by decide, by decide, fun _ => rfl⟩
theorem orAH : Statement .orAH := ⟨by decide, by decide, fun _ => rfl⟩
theorem orAL : Statement .orAL := ⟨by decide, by decide, fun _ => rfl⟩
theorem orAMemHL : Statement .orAMemHL := ⟨by decide, by decide, fun _ => rfl⟩
theorem orAA : Statement .orAA := ⟨by decide, by decide, fun _ => rfl⟩
theorem cpAB : Statement .cpAB := ⟨by decide, by decide, fun _ => rfl⟩
theorem cpAC : Statement .cpAC := ⟨by decide, by decide, fun _ => rfl⟩
theorem cpAD : Statement .cpAD := ⟨by decide, by decide, fun _ => rfl⟩
theorem cpAE : Statement .cpAE := ⟨by decide, by decide, fun _ => rfl⟩
theorem cpAH : Statement .cpAH := ⟨by decide, by decide, fun _ => rfl⟩
theorem cpAL : Statement .cpAL := ⟨by decide, by decide, fun _ => rfl⟩
theorem cpAMemHL : Statement .cpAMemHL := ⟨by decide, by decide, fun _ => rfl⟩
theorem cpAA : Statement .cpAA := ⟨by decide, by decide, fun _ => rfl⟩
theorem retNZ : Statement .retNZ := ⟨by decide, by decide, fun _ => rfl⟩
theorem popBC : Statement .popBC := ⟨by decide, by decide, fun _ => rfl⟩
theorem pushBC : Statement .pushBC := ⟨by decide, by decide, fun _ => rfl⟩
theorem rst00 : Statement .rst00 := ⟨by decide, by decide, fun _ => rfl⟩
theorem retZ : Statement .retZ := ⟨by decide, by decide, fun _ => rfl⟩
theorem ret : Statement .ret := ⟨by decide, by decide, fun _ => rfl⟩
theorem prefixCb : Statement .prefixCb := ⟨by decide, by decide, fun h => absurd h Bool.noConfusion⟩
theorem rst08 : Statement .rst08 := ⟨by decide, by decide, fun _ => rfl⟩
theorem retNC : Statement .retNC := ⟨by decide, by decide, fun _ => rfl⟩
theorem popDE : Statement .popDE := ⟨by decide, by decide, fun _ => rfl⟩
theorem illegalD3 : Statement .illegalD3 := ⟨by decide, by decide, fun _ => rfl⟩
theorem pushDE : Statement .pushDE := ⟨by decide, by decide, fun _ => rfl⟩
theorem rst10 : Statement .rst10 := ⟨by decide, by decide, fun _ => rfl⟩
theorem retC : Statement .retC := ⟨by decide, by decide, fun _ => rfl⟩
theorem reti : Statement .reti := ⟨by decide, by decide, fun _ => rfl⟩
theorem illegalDB : Statement .illegalDB := ⟨by decide, by decide, fun _ => rfl⟩
theorem illegalDD : Statement .illegalDD := ⟨by decide, by decide, fun _ => rfl⟩
theorem rst18 : Statement .rst18 := ⟨by decide, by decide, fun _ => rfl⟩
theorem popHL : Statement .popHL := ⟨by decide, by decide, fun _ => rfl⟩
theorem ldMemCA : Statement .ldMemCA := ⟨by decide, by decide, fun _ => rfl⟩
theorem illegalE3 : Statement .illegalE3 := ⟨by decide, by decide, fun _ => rfl⟩
theorem illegalE4 : Statement .illegalE4 := ⟨by decide, by decide, fun _ => rfl⟩
theorem pushHL : Statement .pushHL := ⟨by decide, by decide, fun _ => rfl⟩
theorem rst20 : Statement .rst20 := ⟨by decide, by decide, fun _ => rfl⟩
theorem jpHL : Statement .jpHL := ⟨by decide, by decide, fun _ => rfl⟩
theorem illegalEB : Statement .illegalEB := ⟨by decide, by decide, fun _ => rfl⟩
theorem illegalEC : Statement .illegalEC := ⟨by decide, by decide, fun _ => rfl⟩
theorem illegalED : Statement .illegalED := ⟨by decide, by decide, fun _ => rfl⟩
theorem rst28 : Statement .rst28 := ⟨by decide, by decide, fun _ => rfl⟩
theorem popAF : Statement .popAF := ⟨by decide, by decide, fun _ => rfl⟩
theorem ldAMemC : Statement .ldAMemC := ⟨by decide, by decide, fun _ => rfl⟩
theorem di : Statement .di := ⟨by decide, by decide, fun _ => rfl⟩
theorem illegalF4 : Statement .illegalF4 := ⟨by decide, by decide, fun _ => rfl⟩
theorem pushAF : Statement .pushAF := ⟨by decide, by decide, fun _ => rfl⟩
theorem rst30 : Statement .rst30 := ⟨by decide, by decide, fun _ => rfl⟩
theorem ldSPHL : Statement .ldSPHL := ⟨by decide, by decide, fun _ => rfl⟩
theorem ei : Statement .ei := ⟨by decide, by decide, fun _ => rfl⟩
theorem illegalFC : Statement .illegalFC := ⟨by decide, by decide, fun _ => rfl⟩
theorem illegalFD : Statement .illegalFD := ⟨by decide, by decide, fun _ => rfl⟩
theorem rst38 : Statement .rst38 := ⟨by decide, by decide, fun _ => rfl⟩
theorem rlcB : Statement .rlcB := ⟨by decide, by decide, fun _ => rfl⟩
theorem rlcC : Statement .rlcC := ⟨by decide, by decide, fun _ => rfl⟩
theorem rlcD : Statement .rlcD := ⟨by decide, by decide, fun _ => rfl⟩
theorem rlcE : Statement .rlcE := ⟨by decide, by decide, fun _ => rfl⟩
theorem rlcH : Statement .rlcH := ⟨by decide, by decide, fun _ => rfl⟩
theorem rlcL : Statement .rlcL := ⟨by decide, by decide, fun _ => rfl⟩
theorem rlcMemHL : Statement .rlcMemHL := ⟨by decide, by decide, fun _ => rfl⟩
theorem rlcA : Statement .rlcA := ⟨by decide, by decide, fun _ => rfl⟩
theorem rrcB : Statement .rrcB := ⟨by decide, by decide, fun _ => rfl⟩
theorem rrcC : Statement .rrcC := ⟨by decide, by decide, fun _ => rfl⟩
theorem rrcD : Statement .rrcD := ⟨by decide, by decide, fun _ => rfl⟩
theorem rrcE : Statement .rrcE := ⟨by decide, by decide, fun _ => rfl⟩
theorem rrcH : Statement .rrcH := ⟨by decide, by decide, fun _ => rfl⟩
theorem rrcL : Statement .rrcL := ⟨by decide, by decide, fun _ => rfl⟩
theorem rrcMemHL : Statement .rrcMemHL := ⟨by decide, by decide, fun _ => rfl⟩
theorem rrcA : Statement .rrcA := ⟨by decide, by decide, fun _ => rfl⟩
theorem rlB : Statement .rlB := ⟨by decide, by decide, fun _ => rfl⟩
theorem rlC : Statement .rlC := ⟨by decide, by decide, fun _ => rfl⟩
theorem rlD : Statement .rlD := ⟨by decide, by decide, fun _ => rfl⟩
theorem rlE : Statement .rlE := ⟨by decide, by decide, fun _ => rfl⟩
theorem rlH : Statement .rlH := ⟨by decide, by decide, fun _ => rfl⟩
theorem rlL : Statement .rlL := ⟨by decide, by decide, fun _ => rfl⟩
theorem rlMemHL : Statement .rlMemHL := ⟨by decide, by decide, fun _ => rfl⟩
theorem rlA : Statement .rlA := ⟨by decide, by decide, fun _ => rfl⟩
theorem rrB : Statement .rrB := ⟨by decide, by decide, fun _ => rfl⟩
theorem rrC : Statement .rrC := ⟨by decide, by decide, fun _ => rfl⟩
theorem rrD : Statement .rrD := ⟨by decide, by decide, fun _ => rfl⟩
theorem rrE : Statement .rrE := ⟨by decide, by decide, fun _ => rfl⟩
theorem rrH : Statement .rrH := ⟨by decide, by decide, fun _ => rfl⟩
theorem rrL : Statement .rrL := ⟨by decide, by decide, fun _ => rfl⟩
theorem rrMemHL : Statement .rrMemHL := ⟨by decide, by decide, fun _ => rfl⟩
theorem rrA : Statement .rrA := ⟨by decide, by decide, fun _ => rfl⟩
theorem slaB : Statement .slaB := ⟨by decide, by decide, fun _ => rfl⟩
theorem slaC : Statement .slaC := ⟨by decide, by decide, fun _ => rfl⟩
theorem slaD : Statement .slaD := ⟨by decide, by decide, fun _ => rfl⟩
theorem slaE : Statement .slaE := ⟨by decide, by decide, fun _ => rfl⟩
theorem slaH : Statement .slaH := ⟨by decide, by decide, fun _ => rfl⟩
theorem slaL : Statement .slaL := ⟨by decide, by decide, fun _ => rfl⟩
theorem slaMemHL : Statement .slaMemHL := ⟨by decide, by decide, fun _ => rfl⟩
theorem slaA : Statement .slaA := ⟨by decide, by decide, fun _ => rfl⟩
theorem sraB : Statement .sraB := ⟨by decide, by decide, fun _ => rfl⟩
theorem sraC : Statement .sraC := ⟨by decide, by decide, fun _ => rfl⟩
theorem sraD : Statement .sraD := ⟨by decide, by decide, fun _ => rfl⟩
theorem sraE : Statement .sraE := ⟨by decide, by decide, fun _ => rfl⟩
theorem sraH : Statement .sraH := ⟨by decide, by decide, fun _ => rfl⟩
theorem sraL : Statement .sraL := ⟨by decide, by decide, fun _ => rfl⟩
theorem sraMemHL : Statement .sraMemHL := ⟨by decide, by decide, fun _ => rfl⟩
theorem sraA : Statement .sraA := ⟨by decide, by decide, fun _ => rfl⟩
theorem swapB : Statement .swapB := ⟨by decide, by decide, fun _ => rfl⟩
theorem swapC : Statement .swapC := ⟨by decide, by decide, fun _ => rfl⟩
theorem swapD : Statement .swapD := ⟨by decide, by decide, fun _ => rfl⟩
theorem swapE : Statement .swapE := ⟨by decide, by decide, fun _ => rfl⟩
theorem swapH : Statement .swapH := ⟨by decide, by decide, fun _ => rfl⟩
theorem swapL : Statement .swapL := ⟨by decide, by decide, fun _ => rfl⟩
theorem swapMemHL : Statement .swapMemHL := ⟨by decide, by decide, fun _ => rfl⟩
theorem swapA : Statement .swapA := ⟨by decide, by decide, fun _ => rfl⟩
theorem srlB : Statement .srlB := ⟨by decide, by decide, fun _ => rfl⟩
theorem srlC : Statement .srlC := ⟨by decide, by decide, fun _ => rfl⟩
theorem srlD : Statement .srlD := ⟨by decide, by decide, fun _ => rfl⟩
theorem srlE : Statement .srlE := ⟨by decide, by decide, fun _ => rfl⟩
theorem srlH : Statement .srlH := ⟨by decide, by decide, fun _ => rfl⟩
theorem srlL : Statement .srlL := ⟨by decide, by decide, fun _ => rfl⟩
theorem srlMemHL : Statement .srlMemHL := ⟨by decide, by decide, fun _ => rfl⟩
theorem srlA : Statement .srlA := ⟨by decide, by decide, fun _ => rfl⟩
theorem bit0B : Statement .bit0B := ⟨by decide, by decide, fun _ => rfl⟩
theorem bit0C : Statement .bit0C := ⟨by decide, by decide, fun _ => rfl⟩
theorem bit0D : Statement .bit0D := ⟨by decide, by decide, fun _ => rfl⟩
theorem bit0E : Statement .bit0E := ⟨by decide, by decide, fun _ => rfl⟩
theorem bit0H : Statement .bit0H := ⟨by decide, by decide, fun _ => rfl⟩
theorem bit0L : Statement .bit0L := ⟨by decide, by decide, fun _ => rfl⟩
theorem bit0MemHL : Statement .bit0MemHL := ⟨by decide, by decide, fun _ => rfl⟩
theorem bit0A : Statement .bit0A := ⟨by decide, by decide, fun _ => rfl⟩
theorem bit1B : Statement .bit1B := ⟨by decide, by decide, fun _ => rfl⟩
theorem bit1C : Statement .bit1C := ⟨by decide, by decide, fun _ => rfl⟩
theorem bit1D : Statement .bit1D := ⟨by decide, by decide, fun _ => rfl⟩
theorem bit1E : Statement .bit1E := ⟨by decide, by decide, fun _ => rfl⟩
theorem bit1H : Statement .bit1H := ⟨by decide, by decide, fun _ => rfl⟩
theorem bit1L : Statement .bit1L := ⟨by decide, by decide, fun _ => rfl⟩
theorem bit1MemHL : Statement .bit1MemHL := ⟨by decide, by decide, fun _ => rfl⟩
theorem bit1A : Statement .bit1A := ⟨by decide, by decide, fun _ => rfl⟩
theorem bit2B : Statement .bit2B := ⟨by decide, by decide, fun _ => rfl⟩
theorem bit2C : Statement .bit2C := ⟨by decide, by decide, fun _ => rfl⟩
theorem bit2D : Statement .bit2D := ⟨by decide, by decide, fun _ => rfl⟩
theorem bit2E : Statement .bit2E := ⟨by decide, by decide, fun _ => rfl⟩
theorem bit2H : Statement .bit2H := ⟨by decide, by decide, fun _ => rfl⟩
theorem bit2L : Statement .bit2L := ⟨by decide, by decide, fun _ => rfl⟩
theorem bit2MemHL : Statement .bit2MemHL := ⟨by decide, by decide, fun _ => rfl⟩
theorem bit2A : Statement .bit2A := ⟨by decide, by decide, fun _ => rfl⟩
theorem bit3B : Statement .bit3B := ⟨by decide, by decide, fun _ => rfl⟩
theorem bit3C : Statement .bit3C := ⟨by decide, by decide, fun _ => rfl⟩
theorem bit3D : Statement .bit3D := ⟨by decide, by decide, fun _ => rfl⟩
theorem bit3E : Statement .bit3E := ⟨by decide, by decide, fun _ => rfl⟩
theorem bit3H : Statement .bit3H := ⟨by decide, by decide, fun _ => rfl⟩
theorem bit3L : Statement .bit3L := ⟨by decide, by decide, fun _ => rfl⟩
theorem bit3MemHL : Statement .bit3MemHL := ⟨by decide, by decide, fun _ => rfl⟩
theorem bit3A : Statement .bit3A := ⟨by decide, by decide, fun _ => rfl⟩
theorem bit4B : Statement .bit4B := ⟨by decide, by decide, fun _ => rfl⟩
theorem bit4C : Statement .bit4C := ⟨by decide, by decide, fun _ => rfl⟩
theorem bit4D : Statement .bit4D := ⟨by decide, by decide, fun _ => rfl⟩
theorem bit4E : Statement .bit4E := ⟨by decide, by decide, fun _ => rfl⟩
theorem bit4H : Statement .bit4H := ⟨by decide, by decide, fun _ => rfl⟩
theorem bit4L : Statement .bit4L := ⟨by decide, by decide, fun _ => rfl⟩
theorem bit4MemHL : Statement .bit4MemHL := ⟨by decide, by decide, fun _ => rfl⟩
theorem bit4A : Statement .bit4A := ⟨by decide, by decide, fun _ => rfl⟩
theorem bit5B : Statement .bit5B := ⟨by decide, by decide, fun _ => rfl⟩
theorem bit5C : Statement .bit5C := ⟨by decide, by decide, fun _ => rfl⟩
theorem bit5D : Statement .bit5D := ⟨by decide, by decide, fun _ => rfl⟩
theorem bit5E : Statement .bit5E := ⟨by decide, by decide, fun _ => rfl⟩
theorem bit5H : Statement .bit5H := ⟨by decide, by decide, fun _ => rfl⟩
theorem bit5L : Statement .bit5L := ⟨by decide, by decide, fun _ => rfl⟩
theorem bit5MemHL : Statement .bit5MemHL := ⟨by decide, by decide, fun _ => rfl⟩
theorem bit5A : Statement .bit5A := ⟨by decide, by decide, fun _ => rfl⟩
theorem bit6B : Statement .bit6B := ⟨by decide, by decide, fun _ => rfl⟩
theorem bit6C : Statement .bit6C := ⟨by decide, by decide, fun _ => rfl⟩
theorem bit6D : Statement .bit6D := ⟨by decide, by decide, fun _ => rfl⟩
theorem bit6E : Statement .bit6E := ⟨by decide, by decide, fun _ => rfl⟩
theorem bit6H : Statement .bit6H := ⟨by decide, by decide, fun _ => rfl⟩
theorem bit6L : Statement .bit6L := ⟨by decide, by decide, fun _ => rfl⟩
theorem bit6MemHL : Statement .bit6MemHL := ⟨by decide, by decide, fun _ => rfl⟩
theorem bit6A : Statement .bit6A := ⟨by decide, by decide, fun _ => rfl⟩
theorem bit7B : Statement .bit7B := ⟨by decide, by decide, fun _ => rfl⟩
theorem bit7C : Statement .bit7C := ⟨by decide, by decide, fun _ => rfl⟩
theorem bit7D : Statement .bit7D := ⟨by decide, by decide, fun _ => rfl⟩
theorem bit7E : Statement .bit7E := ⟨by decide, by decide, fun _ => rfl⟩
theorem bit7H : Statement .bit7H := ⟨by decide, by decide, fun _ => rfl⟩
theorem bit7L : Statement .bit7L := ⟨by decide, by decide, fun _ => rfl⟩
theorem bit7MemHL : Statement .bit7MemHL := ⟨by decide, by decide, fun _ => rfl⟩
theorem bit7A : Statement .bit7A := ⟨by decide, by decide, fun _ => rfl⟩
theorem res0B : Statement .res0B := ⟨by decide, by decide, fun _ => rfl⟩
theorem res0C : Statement .res0C := ⟨by decide, by decide, fun _ => rfl⟩
theorem res0D : Statement .res0D := ⟨by decide, by decide, fun _ => rfl⟩
theorem res0E : Statement .res0E := ⟨by decide, by decide, fun _ => rfl⟩
theorem res0H : Statement .res0H := ⟨by decide, by decide, fun _ => rfl⟩
theorem res0L : Statement .res0L := ⟨by decide, by decide, fun _ => rfl⟩
theorem res0MemHL : Statement .res0MemHL := ⟨by decide, by decide, fun _ => rfl⟩
theorem res0A : Statement .res0A := ⟨by decide, by decide, fun _ => rfl⟩
theorem res1B : Statement .res1B := ⟨by decide, by decide, fun _ => rfl⟩
theorem res1C : Statement .res1C := ⟨by decide, by decide, fun _ => rfl⟩
theorem res1D : Statement .res1D := ⟨by decide, by decide, fun _ => rfl⟩
theorem res1E : Statement .res1E := ⟨by decide, by decide, fun _ => rfl⟩
theorem res1H : Statement .res1H := ⟨by decide, by decide, fun _ => rfl⟩
theorem res1L : Statement .res1L := ⟨by decide, by decide, fun _ => rfl⟩
theorem res1MemHL : Statement .res1MemHL := ⟨by decide, by decide, fun _ => rfl⟩
theorem res1A : Statement .res1A := ⟨by decide, by decide, fun _ => rfl⟩
theorem res2B : Statement .res2B := ⟨by decide, by decide, fun _ => rfl⟩
theorem res2C : Statement .res2C := ⟨by decide, by decide, fun _ => rfl⟩
theorem res2D : Statement .res2D := ⟨by decide, by decide, fun _ => rfl⟩
theorem res2E : Statement .res2E := ⟨by decide, by decide, fun _ => rfl⟩
theorem res2H : Statement .res2H := ⟨by decide, by decide, fun _ => rfl⟩
theorem res2L : Statement .res2L := ⟨by decide, by decide, fun _ => rfl⟩
theorem res2MemHL : Statement .res2MemHL := ⟨by decide, by decide, fun _ => rfl⟩
theorem res2A : Statement .res2A := ⟨by decide, by decide, fun _ => rfl⟩
theorem res3B : Statement .res3B := ⟨by decide, by decide, fun _ => rfl⟩
theorem res3C : Statement .res3C := ⟨by decide, by decide, fun _ => rfl⟩
theorem res3D : Statement .res3D := ⟨by decide, by decide, fun _ => rfl⟩
theorem res3E : Statement .res3E := ⟨by decide, by decide, fun _ => rfl⟩
theorem res3H : Statement .res3H := ⟨by decide, by decide, fun _ => rfl⟩
theorem res3L : Statement .res3L := ⟨by decide, by decide, fun _ => rfl⟩
theorem res3MemHL : Statement .res3MemHL := ⟨by decide, by decide, fun _ => rfl⟩
theorem res3A : Statement .res3A := ⟨by decide, by decide, fun _ => rfl⟩
theorem res4B : Statement .res4B := ⟨by decide, by decide, fun _ => rfl⟩
theorem res4C : Statement .res4C := ⟨by decide, by decide, fun _ => rfl⟩
theorem res4D : Statement .res4D := ⟨by decide, by decide, fun _ => rfl⟩
theorem res4E : Statement .res4E := ⟨by decide, by decide, fun _ => rfl⟩
theorem res4H : Statement .res4H := ⟨by decide, by decide, fun _ => rfl⟩
theorem res4L : Statement .res4L := ⟨by decide, by decide, fun _ => rfl⟩
theorem res4MemHL : Statement .res4MemHL := ⟨by decide, by decide, fun _ => rfl⟩
theorem res4A : Statement .res4A := ⟨by decide, by decide, fun _ => rfl⟩
theorem res5B : Statement .res5B := ⟨by decide, by decide, fun _ => rfl⟩
theorem res5C : Statement .res5C := ⟨by decide, by decide, fun _ => rfl⟩
theorem res5D : Statement .res5D := ⟨by decide, by decide, fun _ => rfl⟩
theorem res5E : Statement .res5E := ⟨by decide, by decide, fun _ => rfl⟩
theorem res5H : Statement .res5H := ⟨by decide, by decide, fun _ => rfl⟩
theorem res5L : Statement .res5L := ⟨by decide, by decide, fun _ => rfl⟩
theorem res5MemHL : Statement .res5MemHL := ⟨by decide, by decide, fun _ => rfl⟩
theorem res5A : Statement .res5A := ⟨by decide, by decide, fun _ => rfl⟩
theorem res6B : Statement .res6B := ⟨by decide, by decide, fun _ => rfl⟩
theorem res6C : Statement .res6C := ⟨by decide, by decide, fun _ => rfl⟩
theorem res6D : Statement .res6D := ⟨by decide, by decide, fun _ => rfl⟩
theorem res6E : Statement .res6E := ⟨by decide, by decide, fun _ => rfl⟩
theorem res6H : Statement .res6H := ⟨by decide, by decide, fun _ => rfl⟩
theorem res6L : Statement .res6L := ⟨by decide, by decide, fun _ => rfl⟩
theorem res6MemHL : Statement .res6MemHL := ⟨by decide, by decide, fun _ => rfl⟩
theorem res6A : Statement .res6A := ⟨by decide, by decide, fun _ => rfl⟩
theorem res7B : Statement .res7B := ⟨by decide, by decide, fun _ => rfl⟩
theorem res7C : Statement .res7C := ⟨by decide, by decide, fun _ => rfl⟩
theorem res7D : Statement .res7D := ⟨by decide, by decide, fun _ => rfl⟩
theorem res7E : Statement .res7E := ⟨by decide, by decide, fun _ => rfl⟩
theorem res7H : Statement .res7H := ⟨by decide, by decide, fun _ => rfl⟩
theorem res7L : Statement .res7L := ⟨by decide, by decide, fun _ => rfl⟩
theorem res7MemHL : Statement .res7MemHL := ⟨by decide, by decide, fun _ => rfl⟩
theorem res7A : Statement .res7A := ⟨by decide, by decide, fun _ => rfl⟩
theorem set0B : Statement .set0B := ⟨by decide, by decide, fun _ => rfl⟩
theorem set0C : Statement .set0C := ⟨by decide, by decide, fun _ => rfl⟩
theorem set0D : Statement .set0D := ⟨by decide, by decide, fun _ => rfl⟩
theorem set0E : Statement .set0E := ⟨by decide, by decide, fun _ => rfl⟩
theorem set0H : Statement .set0H := ⟨by decide, by decide, fun _ => rfl⟩
theorem set0L : Statement .set0L := ⟨by decide, by decide, fun _ => rfl⟩
theorem set0MemHL : Statement .set0MemHL := ⟨by decide, by decide, fun _ => rfl⟩
theorem set0A : Statement .set0A := ⟨by decide, by decide, fun _ => rfl⟩
theorem set1B : Statement .set1B := ⟨by decide, by decide, fun _ => rfl⟩
theorem set1C : Statement .set1C := ⟨by decide, by decide, fun _ => rfl⟩
theorem set1D : Statement .set1D := ⟨by decide, by decide, fun _ => rfl⟩
theorem set1E : Statement .set1E := ⟨by decide, by decide, fun _ => rfl⟩
theorem set1H : Statement .set1H := ⟨by decide, by decide, fun _ => rfl⟩
theorem set1L : Statement .set1L := ⟨by decide, by decide, fun _ => rfl⟩
theorem set1MemHL : Statement .set1MemHL := ⟨by decide, by decide, fun _ => rfl⟩
theorem set1A : Statement .set1A := ⟨by decide, by decide, fun _ => rfl⟩
theorem set2B : Statement .set2B := ⟨by decide, by decide, fun _ => rfl⟩
theorem set2C : Statement .set2C := ⟨by decide, by decide, fun _ => rfl⟩
theorem set2D : Statement .set2D := ⟨by decide, by decide, fun _ => rfl⟩
theorem set2E : Statement .set2E := ⟨by decide, by decide, fun _ => rfl⟩
theorem set2H : Statement .set2H := ⟨by decide, by decide, fun _ => rfl⟩
theorem set2L : Statement .set2L := ⟨by decide, by decide, fun _ => rfl⟩
theorem set2MemHL : Statement .set2MemHL := ⟨by decide, by decide, fun _ => rfl⟩
theorem set2A : Statement .set2A := ⟨by decide, by decide, fun _ => rfl⟩
theorem set3B : Statement .set3B := ⟨by decide, by decide, fun _ => rfl⟩
theorem set3C : Statement .set3C := ⟨by decide, by decide, fun _ => rfl⟩
theorem set3D : Statement .set3D := ⟨by decide, by decide, fun _ => rfl⟩
theorem set3E : Statement .set3E := ⟨by decide, by decide, fun _ => rfl⟩
theorem set3H : Statement .set3H := ⟨by decide, by decide, fun _ => rfl⟩
theorem set3L : Statement .set3L := ⟨by decide, by decide, fun _ => rfl⟩
theorem set3MemHL : Statement .set3MemHL := ⟨by decide, by decide, fun _ => rfl⟩
theorem set3A : Statement .set3A := ⟨by decide, by decide, fun _ => rfl⟩
theorem set4B : Statement .set4B := ⟨by decide, by decide, fun _ => rfl⟩
theorem set4C : Statement .set4C := ⟨by decide, by decide, fun _ => rfl⟩
theorem set4D : Statement .set4D := ⟨by decide, by decide, fun _ => rfl⟩
theorem set4E : Statement .set4E := ⟨by decide, by decide, fun _ => rfl⟩
theorem set4H : Statement .set4H := ⟨by decide, by decide, fun _ => rfl⟩
theorem set4L : Statement .set4L := ⟨by decide, by decide, fun _ => rfl⟩
theorem set4MemHL : Statement .set4MemHL := ⟨by decide, by decide, fun _ => rfl⟩
theorem set4A : Statement .set4A := ⟨by decide, by decide, fun _ => rfl⟩
theorem set5B : Statement .set5B := ⟨by decide, by decide, fun _ => rfl⟩
theorem set5C : Statement .set5C := ⟨by decide, by decide, fun _ => rfl⟩
theorem set5D : Statement .set5D := ⟨by decide, by decide, fun _ => rfl⟩
theorem set5E : Statement .set5E := ⟨by decide, by decide, fun _ => rfl⟩
theorem set5H : Statement .set5H := ⟨by decide, by decide, fun _ => rfl⟩
theorem set5L : Statement .set5L := ⟨by decide, by decide, fun _ => rfl⟩
theorem set5MemHL : Statement .set5MemHL := ⟨by decide, by decide, fun _ => rfl⟩
theorem set5A : Statement .set5A := ⟨by decide, by decide, fun _ => rfl⟩
theorem set6B : Statement .set6B := ⟨by decide, by decide, fun _ => rfl⟩
theorem set6C : Statement .set6C := ⟨by decide, by decide, fun _ => rfl⟩
theorem set6D : Statement .set6D := ⟨by decide, by decide, fun _ => rfl⟩
theorem set6E : Statement .set6E := ⟨by decide, by decide, fun _ => rfl⟩
theorem set6H : Statement .set6H := ⟨by decide, by decide, fun _ => rfl⟩
theorem set6L : Statement .set6L := ⟨by decide, by decide, fun _ => rfl⟩
theorem set6MemHL : Statement .set6MemHL := ⟨by decide, by decide, fun _ => rfl⟩
theorem set6A : Statement .set6A := ⟨by decide, by decide, fun _ => rfl⟩
theorem set7B : Statement .set7B := ⟨by decide, by decide, fun _ => rfl⟩
theorem set7C : Statement .set7C := ⟨by decide, by decide, fun _ => rfl⟩
theorem set7D : Statement .set7D := ⟨by decide, by decide, fun _ => rfl⟩
theorem set7E : Statement .set7E := ⟨by decide, by decide, fun _ => rfl⟩
theorem set7H : Statement .set7H := ⟨by decide, by decide, fun _ => rfl⟩
theorem set7L : Statement .set7L := ⟨by decide, by decide, fun _ => rfl⟩
theorem set7MemHL : Statement .set7MemHL := ⟨by decide, by decide, fun _ => rfl⟩
theorem set7A : Statement .set7A := ⟨by decide, by decide, fun _ => rfl⟩

end Sys2Proof.Laws.EncodedLength
end

