-- ==== Sys2Proof/Tests/Slice0.lean ====
section
/-! SUPPORT. Tests. Decoding is checked against the two maps of `30_encoding.md` R78 and R81, single steps against the vectors of `95_test_vectors.md` (the vector's id is in the name), and every obligation's hypotheses against a concrete state that meets them. -/

namespace Sys2Proof.Tests

open Sys2Proof.Machine

/-- The base state of the vectors: the reset state with PC = 0xC000, and the given bytes stored there. -/
def code (bytes : List Byte) : State := ({ State.reset with pc := 0xC000 } : State).placeBytes 0xC000 bytes

/-- What `g` reads in the next state. -/
def after {α : Type} (r : Result) (g : State → α) : Option α :=
  match r with
  | .next t => some (g t)
  | .fault _ => none
  | .refused _ => none

/-! ## WellFormed: each check refuses an ill-formed term -/

theorem test_wf_refuses_bare_prefix : Instr.prefixCb.selfContained = false ∧ Instr.prefixCb.wellFormed = false := by
  decide
theorem test_wf_refuses_illegal_byte : Instr.illegalD3.hasTableEntry = false ∧ Instr.illegalD3.wellFormed = false := by
  decide
theorem test_wf_accepts : (Instr.ldBCN16 0x1234).wellFormed = true ∧ Instr.bit7MemHL.wellFormed = true := by decide

/-! ## Decoding: the maps of R78 (with the bytes 0x34, 0x12 after the opcode) and R81 -/

theorem test_decode_op_0x : [0x00, 0x01, 0x02, 0x03, 0x04, 0x05, 0x06, 0x07, 0x08, 0x09, 0x0A, 0x0B, 0x0C, 0x0D, 0x0E, 0x0F].map (fun op => decodeBytes op 0x34 0x12) =
    [.nop, .ldBCN16 0x1234, .ldMemBCA, .incBC, .incB, .decB, .ldBN8 0x34, .rlca, .ldMemN16SP 0x1234, .addHLBC,
     .ldAMemBC, .decBC, .incC, .decC, .ldCN8 0x34, .rrca] := by decide
theorem test_decode_op_1x : [0x10, 0x11, 0x12, 0x13, 0x14, 0x15, 0x16, 0x17, 0x18, 0x19, 0x1A, 0x1B, 0x1C, 0x1D, 0x1E, 0x1F].map (fun op => decodeBytes op 0x34 0x12) =
    [.stop 0x34, .ldDEN16 0x1234, .ldMemDEA, .incDE, .incD, .decD, .ldDN8 0x34, .rla, .jrE8 0x34, .addHLDE,
     .ldAMemDE, .decDE, .incE, .decE, .ldEN8 0x34, .rra] := by decide
theorem test_decode_op_2x : [0x20, 0x21, 0x22, 0x23, 0x24, 0x25, 0x26, 0x27, 0x28, 0x29, 0x2A, 0x2B, 0x2C, 0x2D, 0x2E, 0x2F].map (fun op => decodeBytes op 0x34 0x12) =
    [.jrNZE8 0x34, .ldHLN16 0x1234, .ldMemHLIncA, .incHL, .incH, .decH, .ldHN8 0x34, .daa, .jrZE8 0x34,
     .addHLHL, .ldAMemHLInc, .decHL, .incL, .decL, .ldLN8 0x34, .cpl] := by decide
theorem test_decode_op_3x : [0x30, 0x31, 0x32, 0x33, 0x34, 0x35, 0x36, 0x37, 0x38, 0x39, 0x3A, 0x3B, 0x3C, 0x3D, 0x3E, 0x3F].map (fun op => decodeBytes op 0x34 0x12) =
    [.jrNCE8 0x34, .ldSPN16 0x1234, .ldMemHLDecA, .incSP, .incMemHL, .decMemHL, .ldMemHLN8 0x34, .scf,
     .jrCE8 0x34, .addHLSP, .ldAMemHLDec, .decSP, .incA, .decA, .ldAN8 0x34, .ccf] := by decide
theorem test_decode_op_4x : [0x40, 0x41, 0x42, 0x43, 0x44, 0x45, 0x46, 0x47, 0x48, 0x49, 0x4A, 0x4B, 0x4C, 0x4D, 0x4E, 0x4F].map (fun op => decodeBytes op 0x34 0x12) =
    [.ldBB, .ldBC, .ldBD, .ldBE, .ldBH, .ldBL, .ldBMemHL, .ldBA, .ldCB, .ldCC, .ldCD, .ldCE, .ldCH, .ldCL,
     .ldCMemHL, .ldCA] := by decide
theorem test_decode_op_5x : [0x50, 0x51, 0x52, 0x53, 0x54, 0x55, 0x56, 0x57, 0x58, 0x59, 0x5A, 0x5B, 0x5C, 0x5D, 0x5E, 0x5F].map (fun op => decodeBytes op 0x34 0x12) =
    [.ldDB, .ldDC, .ldDD, .ldDE, .ldDH, .ldDL, .ldDMemHL, .ldDA, .ldEB, .ldEC, .ldED, .ldEE, .ldEH, .ldEL,
     .ldEMemHL, .ldEA] := by decide
theorem test_decode_op_6x : [0x60, 0x61, 0x62, 0x63, 0x64, 0x65, 0x66, 0x67, 0x68, 0x69, 0x6A, 0x6B, 0x6C, 0x6D, 0x6E, 0x6F].map (fun op => decodeBytes op 0x34 0x12) =
    [.ldHB, .ldHC, .ldHD, .ldHE, .ldHH, .ldHL, .ldHMemHL, .ldHA, .ldLB, .ldLC, .ldLD, .ldLE, .ldLH, .ldLL,
     .ldLMemHL, .ldLA] := by decide
theorem test_decode_op_7x : [0x70, 0x71, 0x72, 0x73, 0x74, 0x75, 0x76, 0x77, 0x78, 0x79, 0x7A, 0x7B, 0x7C, 0x7D, 0x7E, 0x7F].map (fun op => decodeBytes op 0x34 0x12) =
    [.ldMemHLB, .ldMemHLC, .ldMemHLD, .ldMemHLE, .ldMemHLH, .ldMemHLL, .halt, .ldMemHLA, .ldAB, .ldAC, .ldAD,
     .ldAE, .ldAH, .ldAL, .ldAMemHL, .ldAA] := by decide
theorem test_decode_op_8x : [0x80, 0x81, 0x82, 0x83, 0x84, 0x85, 0x86, 0x87, 0x88, 0x89, 0x8A, 0x8B, 0x8C, 0x8D, 0x8E, 0x8F].map (fun op => decodeBytes op 0x34 0x12) =
    [.addAB, .addAC, .addAD, .addAE, .addAH, .addAL, .addAMemHL, .addAA, .adcAB, .adcAC, .adcAD, .adcAE,
     .adcAH, .adcAL, .adcAMemHL, .adcAA] := by decide
theorem test_decode_op_9x : [0x90, 0x91, 0x92, 0x93, 0x94, 0x95, 0x96, 0x97, 0x98, 0x99, 0x9A, 0x9B, 0x9C, 0x9D, 0x9E, 0x9F].map (fun op => decodeBytes op 0x34 0x12) =
    [.subAB, .subAC, .subAD, .subAE, .subAH, .subAL, .subAMemHL, .subAA, .sbcAB, .sbcAC, .sbcAD, .sbcAE,
     .sbcAH, .sbcAL, .sbcAMemHL, .sbcAA] := by decide
theorem test_decode_op_Ax : [0xA0, 0xA1, 0xA2, 0xA3, 0xA4, 0xA5, 0xA6, 0xA7, 0xA8, 0xA9, 0xAA, 0xAB, 0xAC, 0xAD, 0xAE, 0xAF].map (fun op => decodeBytes op 0x34 0x12) =
    [.andAB, .andAC, .andAD, .andAE, .andAH, .andAL, .andAMemHL, .andAA, .xorAB, .xorAC, .xorAD, .xorAE,
     .xorAH, .xorAL, .xorAMemHL, .xorAA] := by decide
theorem test_decode_op_Bx : [0xB0, 0xB1, 0xB2, 0xB3, 0xB4, 0xB5, 0xB6, 0xB7, 0xB8, 0xB9, 0xBA, 0xBB, 0xBC, 0xBD, 0xBE, 0xBF].map (fun op => decodeBytes op 0x34 0x12) =
    [.orAB, .orAC, .orAD, .orAE, .orAH, .orAL, .orAMemHL, .orAA, .cpAB, .cpAC, .cpAD, .cpAE, .cpAH, .cpAL,
     .cpAMemHL, .cpAA] := by decide
theorem test_decode_op_Cx : [0xC0, 0xC1, 0xC2, 0xC3, 0xC4, 0xC5, 0xC6, 0xC7, 0xC8, 0xC9, 0xCA, 0xCB, 0xCC, 0xCD, 0xCE, 0xCF].map (fun op => decodeBytes op 0x34 0x12) =
    [.retNZ, .popBC, .jpNZN16 0x1234, .jpN16 0x1234, .callNZN16 0x1234, .pushBC, .addAN8 0x34, .rst00, .retZ,
     .ret, .jpZN16 0x1234, .swapH, .callZN16 0x1234, .callN16 0x1234, .adcAN8 0x34, .rst08] := by decide
theorem test_decode_op_Dx : [0xD0, 0xD1, 0xD2, 0xD3, 0xD4, 0xD5, 0xD6, 0xD7, 0xD8, 0xD9, 0xDA, 0xDB, 0xDC, 0xDD, 0xDE, 0xDF].map (fun op => decodeBytes op 0x34 0x12) =
    [.retNC, .popDE, .jpNCN16 0x1234, .illegalD3, .callNCN16 0x1234, .pushDE, .subAN8 0x34, .rst10, .retC,
     .reti, .jpCN16 0x1234, .illegalDB, .callCN16 0x1234, .illegalDD, .sbcAN8 0x34, .rst18] := by decide
theorem test_decode_op_Ex : [0xE0, 0xE1, 0xE2, 0xE3, 0xE4, 0xE5, 0xE6, 0xE7, 0xE8, 0xE9, 0xEA, 0xEB, 0xEC, 0xED, 0xEE, 0xEF].map (fun op => decodeBytes op 0x34 0x12) =
    [.ldhMemN8A 0x34, .popHL, .ldMemCA, .illegalE3, .illegalE4, .pushHL, .andAN8 0x34, .rst20, .addSPE8 0x34,
     .jpHL, .ldMemN16A 0x1234, .illegalEB, .illegalEC, .illegalED, .xorAN8 0x34, .rst28] := by decide
theorem test_decode_op_Fx : [0xF0, 0xF1, 0xF2, 0xF3, 0xF4, 0xF5, 0xF6, 0xF7, 0xF8, 0xF9, 0xFA, 0xFB, 0xFC, 0xFD, 0xFE, 0xFF].map (fun op => decodeBytes op 0x34 0x12) =
    [.ldhAMemN8 0x34, .popAF, .ldAMemC, .di, .illegalF4, .pushAF, .orAN8 0x34, .rst30, .ldHLSPE8 0x34, .ldSPHL,
     .ldAMemN16 0x1234, .ei, .illegalFC, .illegalFD, .cpAN8 0x34, .rst38] := by decide
theorem test_decode_cb_0x : [0x00, 0x01, 0x02, 0x03, 0x04, 0x05, 0x06, 0x07, 0x08, 0x09, 0x0A, 0x0B, 0x0C, 0x0D, 0x0E, 0x0F].map (fun b => decodeBytes 0xCB b 0x12) =
    [.rlcB, .rlcC, .rlcD, .rlcE, .rlcH, .rlcL, .rlcMemHL, .rlcA, .rrcB, .rrcC, .rrcD, .rrcE, .rrcH, .rrcL,
     .rrcMemHL, .rrcA] := by decide
theorem test_decode_cb_1x : [0x10, 0x11, 0x12, 0x13, 0x14, 0x15, 0x16, 0x17, 0x18, 0x19, 0x1A, 0x1B, 0x1C, 0x1D, 0x1E, 0x1F].map (fun b => decodeBytes 0xCB b 0x12) =
    [.rlB, .rlC, .rlD, .rlE, .rlH, .rlL, .rlMemHL, .rlA, .rrB, .rrC, .rrD, .rrE, .rrH, .rrL, .rrMemHL, .rrA] := by decide
theorem test_decode_cb_2x : [0x20, 0x21, 0x22, 0x23, 0x24, 0x25, 0x26, 0x27, 0x28, 0x29, 0x2A, 0x2B, 0x2C, 0x2D, 0x2E, 0x2F].map (fun b => decodeBytes 0xCB b 0x12) =
    [.slaB, .slaC, .slaD, .slaE, .slaH, .slaL, .slaMemHL, .slaA, .sraB, .sraC, .sraD, .sraE, .sraH, .sraL,
     .sraMemHL, .sraA] := by decide
theorem test_decode_cb_3x : [0x30, 0x31, 0x32, 0x33, 0x34, 0x35, 0x36, 0x37, 0x38, 0x39, 0x3A, 0x3B, 0x3C, 0x3D, 0x3E, 0x3F].map (fun b => decodeBytes 0xCB b 0x12) =
    [.swapB, .swapC, .swapD, .swapE, .swapH, .swapL, .swapMemHL, .swapA, .srlB, .srlC, .srlD, .srlE, .srlH,
     .srlL, .srlMemHL, .srlA] := by decide
theorem test_decode_cb_4x : [0x40, 0x41, 0x42, 0x43, 0x44, 0x45, 0x46, 0x47, 0x48, 0x49, 0x4A, 0x4B, 0x4C, 0x4D, 0x4E, 0x4F].map (fun b => decodeBytes 0xCB b 0x12) =
    [.bit0B, .bit0C, .bit0D, .bit0E, .bit0H, .bit0L, .bit0MemHL, .bit0A, .bit1B, .bit1C, .bit1D, .bit1E,
     .bit1H, .bit1L, .bit1MemHL, .bit1A] := by decide
theorem test_decode_cb_5x : [0x50, 0x51, 0x52, 0x53, 0x54, 0x55, 0x56, 0x57, 0x58, 0x59, 0x5A, 0x5B, 0x5C, 0x5D, 0x5E, 0x5F].map (fun b => decodeBytes 0xCB b 0x12) =
    [.bit2B, .bit2C, .bit2D, .bit2E, .bit2H, .bit2L, .bit2MemHL, .bit2A, .bit3B, .bit3C, .bit3D, .bit3E,
     .bit3H, .bit3L, .bit3MemHL, .bit3A] := by decide
theorem test_decode_cb_6x : [0x60, 0x61, 0x62, 0x63, 0x64, 0x65, 0x66, 0x67, 0x68, 0x69, 0x6A, 0x6B, 0x6C, 0x6D, 0x6E, 0x6F].map (fun b => decodeBytes 0xCB b 0x12) =
    [.bit4B, .bit4C, .bit4D, .bit4E, .bit4H, .bit4L, .bit4MemHL, .bit4A, .bit5B, .bit5C, .bit5D, .bit5E,
     .bit5H, .bit5L, .bit5MemHL, .bit5A] := by decide
theorem test_decode_cb_7x : [0x70, 0x71, 0x72, 0x73, 0x74, 0x75, 0x76, 0x77, 0x78, 0x79, 0x7A, 0x7B, 0x7C, 0x7D, 0x7E, 0x7F].map (fun b => decodeBytes 0xCB b 0x12) =
    [.bit6B, .bit6C, .bit6D, .bit6E, .bit6H, .bit6L, .bit6MemHL, .bit6A, .bit7B, .bit7C, .bit7D, .bit7E,
     .bit7H, .bit7L, .bit7MemHL, .bit7A] := by decide
theorem test_decode_cb_8x : [0x80, 0x81, 0x82, 0x83, 0x84, 0x85, 0x86, 0x87, 0x88, 0x89, 0x8A, 0x8B, 0x8C, 0x8D, 0x8E, 0x8F].map (fun b => decodeBytes 0xCB b 0x12) =
    [.res0B, .res0C, .res0D, .res0E, .res0H, .res0L, .res0MemHL, .res0A, .res1B, .res1C, .res1D, .res1E,
     .res1H, .res1L, .res1MemHL, .res1A] := by decide
theorem test_decode_cb_9x : [0x90, 0x91, 0x92, 0x93, 0x94, 0x95, 0x96, 0x97, 0x98, 0x99, 0x9A, 0x9B, 0x9C, 0x9D, 0x9E, 0x9F].map (fun b => decodeBytes 0xCB b 0x12) =
    [.res2B, .res2C, .res2D, .res2E, .res2H, .res2L, .res2MemHL, .res2A, .res3B, .res3C, .res3D, .res3E,
     .res3H, .res3L, .res3MemHL, .res3A] := by decide
theorem test_decode_cb_Ax : [0xA0, 0xA1, 0xA2, 0xA3, 0xA4, 0xA5, 0xA6, 0xA7, 0xA8, 0xA9, 0xAA, 0xAB, 0xAC, 0xAD, 0xAE, 0xAF].map (fun b => decodeBytes 0xCB b 0x12) =
    [.res4B, .res4C, .res4D, .res4E, .res4H, .res4L, .res4MemHL, .res4A, .res5B, .res5C, .res5D, .res5E,
     .res5H, .res5L, .res5MemHL, .res5A] := by decide
theorem test_decode_cb_Bx : [0xB0, 0xB1, 0xB2, 0xB3, 0xB4, 0xB5, 0xB6, 0xB7, 0xB8, 0xB9, 0xBA, 0xBB, 0xBC, 0xBD, 0xBE, 0xBF].map (fun b => decodeBytes 0xCB b 0x12) =
    [.res6B, .res6C, .res6D, .res6E, .res6H, .res6L, .res6MemHL, .res6A, .res7B, .res7C, .res7D, .res7E,
     .res7H, .res7L, .res7MemHL, .res7A] := by decide
theorem test_decode_cb_Cx : [0xC0, 0xC1, 0xC2, 0xC3, 0xC4, 0xC5, 0xC6, 0xC7, 0xC8, 0xC9, 0xCA, 0xCB, 0xCC, 0xCD, 0xCE, 0xCF].map (fun b => decodeBytes 0xCB b 0x12) =
    [.set0B, .set0C, .set0D, .set0E, .set0H, .set0L, .set0MemHL, .set0A, .set1B, .set1C, .set1D, .set1E,
     .set1H, .set1L, .set1MemHL, .set1A] := by decide
theorem test_decode_cb_Dx : [0xD0, 0xD1, 0xD2, 0xD3, 0xD4, 0xD5, 0xD6, 0xD7, 0xD8, 0xD9, 0xDA, 0xDB, 0xDC, 0xDD, 0xDE, 0xDF].map (fun b => decodeBytes 0xCB b 0x12) =
    [.set2B, .set2C, .set2D, .set2E, .set2H, .set2L, .set2MemHL, .set2A, .set3B, .set3C, .set3D, .set3E,
     .set3H, .set3L, .set3MemHL, .set3A] := by decide
theorem test_decode_cb_Ex : [0xE0, 0xE1, 0xE2, 0xE3, 0xE4, 0xE5, 0xE6, 0xE7, 0xE8, 0xE9, 0xEA, 0xEB, 0xEC, 0xED, 0xEE, 0xEF].map (fun b => decodeBytes 0xCB b 0x12) =
    [.set4B, .set4C, .set4D, .set4E, .set4H, .set4L, .set4MemHL, .set4A, .set5B, .set5C, .set5D, .set5E,
     .set5H, .set5L, .set5MemHL, .set5A] := by decide
theorem test_decode_cb_Fx : [0xF0, 0xF1, 0xF2, 0xF3, 0xF4, 0xF5, 0xF6, 0xF7, 0xF8, 0xF9, 0xFA, 0xFB, 0xFC, 0xFD, 0xFE, 0xFF].map (fun b => decodeBytes 0xCB b 0x12) =
    [.set6B, .set6C, .set6D, .set6E, .set6H, .set6L, .set6MemHL, .set6A, .set7B, .set7C, .set7D, .set7E,
     .set7H, .set7L, .set7MemHL, .set7A] := by decide
theorem test_decode_bare_prefix : decode [0xCB] = .ok .prefixCb := rfl
theorem test_decode_truncated : decode [0x01, 0x34] = .error (.truncated 0x01) ∧ decode [] = .error .empty := ⟨rfl, rfl⟩
theorem test_encode_words : encode (.callN16 0x1234) = [0xCD, 0x34, 0x12] ∧ encode .set7MemHL = [0xCB, 0xFE] ∧
    encode (.stop 0x00) = [0x10, 0x00] := by decide
theorem test_table_words : decodeTableWord 8 0x3E = some (.ldAN8 0x00) ∧ decodeTableWord 16 0x423E = some (.ldAN8 0x42) ∧
    decodeTableWord 16 0xCB7C = some .bit7H ∧ decodeTableWord 8 0xCB = some .prefixCb ∧
    decodeTableWord 24 0x1234C3 = some (.jpN16 0x1234) ∧ decodeTableWord 8 0xD3 = some .illegalD3 := by decide
theorem test_fetch_word : after (step (State.reset.withFetchWord 8 0x3C)) (fun t => (t.a, t.pc)) = some (0x02, 0x0101) := by
  decide +kernel
theorem test_fetch_word_cb : after (step (State.reset.withFetchWord 16 0xCB37)) (fun t => (t.a, t.pc)) =
    some (0x10, 0x0102) := by decide

/-! ## One step each, from the vectors -/

theorem test_vector_E1_2 : after (step { code [0xC6, 0xFF] with a := 0x3C, f := 0xC0 })
    (fun t => (t.a, t.f, t.pc, t.remaining)) =
    some (0x3B, 0x30, 0xC002, 7) := by decide
theorem test_vector_E2_2 : after (step { code [0xCB, 0x78] with b := 0x00, f := 0x50 })
    (fun t => (t.f, t.pc, t.remaining)) =
    some (0xB0, 0xC002, 7) := by decide
theorem test_vector_LD8_1 : after (step { code [0x41] with c := 0x5A, f := 0xF0 })
    (fun t => (t.b, t.pc, t.f, t.remaining)) =
    some (0x5A, 0xC001, 0xF0, 3) := by decide
theorem test_vector_LD8_3 : after (step { (code [0x7E]).writeByte 0xC100 0x99 with h := 0xC1, l := 0x00 })
    (fun t => (t.a, t.pc, t.f, t.remaining)) =
    some (0x99, 0xC001, 0xB0, 7) := by decide
theorem test_vector_LD8_4 : after (step { (code [0x66]).writeByte 0xC100 0xC2 with h := 0xC1, l := 0x00 })
    (fun t => (t.h, t.pc, t.f, t.remaining)) =
    some (0xC2, 0xC001, 0xB0, 7) := by decide
theorem test_vector_LD8_5 : after (step { code [0x77] with a := 0x42, h := 0xC1, l := 0x00 })
    (fun t => (t.pc, t.readByte 0xC100, t.f, t.remaining)) =
    some (0xC001, 0x42, 0xB0, 7) := by decide
theorem test_vector_LD8_6 : after (step { code [0x74] with h := 0xC1, l := 0x23 })
    (fun t => (t.pc, t.readByte 0xC123, t.f, t.remaining)) =
    some (0xC001, 0xC1, 0xB0, 7) := by decide
theorem test_vector_LD8_8 : after (step { code [0x36, 0xAB] with h := 0xC1, l := 0x00 })
    (fun t => (t.pc, t.readByte 0xC100, t.f, t.remaining)) =
    some (0xC002, 0xAB, 0xB0, 11) := by decide
theorem test_vector_LD8_9 : after (step { (code [0x0A]).writeByte 0xC100 0x3D with b := 0xC1, c := 0x00 })
    (fun t => (t.a, t.pc, t.f, t.remaining)) =
    some (0x3D, 0xC001, 0xB0, 7) := by decide
theorem test_vector_LD8_13 : after (step ((code [0xFA, 0x34, 0xC1]).writeByte 0xC134 0x5C))
    (fun t => (t.a, t.pc, t.f, t.remaining)) =
    some (0x5C, 0xC003, 0xB0, 15) := by decide
theorem test_vector_LD8_14 : after (step { code [0xEA, 0x34, 0xC1] with a := 0x21 })
    (fun t => (t.pc, t.readByte 0xC134, t.f, t.remaining)) =
    some (0xC003, 0x21, 0xB0, 15) := by decide
theorem test_vector_LD8_15 : after (step ((code [0xF0, 0x80]).writeByte 0xFF80 0x66))
    (fun t => (t.a, t.pc, t.f, t.remaining)) =
    some (0x66, 0xC002, 0xB0, 11) := by decide
theorem test_vector_LD8_16 : after (step { code [0xE0, 0x80] with a := 0x67 })
    (fun t => (t.pc, t.readByte 0xFF80, t.f, t.remaining)) =
    some (0xC002, 0x67, 0xB0, 11) := by decide
theorem test_vector_LD8_18 : after (step { (code [0xF2]).writeByte 0xFF81 0x12 with c := 0x81 })
    (fun t => (t.a, t.pc, t.f, t.remaining)) =
    some (0x12, 0xC001, 0xB0, 7) := by decide
theorem test_vector_LD8_19 : after (step { code [0xE2] with a := 0x34, c := 0x81 })
    (fun t => (t.pc, t.readByte 0xFF81, t.f, t.remaining)) =
    some (0xC001, 0x34, 0xB0, 7) := by decide
theorem test_vector_LD8_20 : after (step { code [0x22] with a := 0x01, h := 0xC1, l := 0xFF })
    (fun t => (t.h, t.l, t.pc, t.readByte 0xC1FF, t.f, t.remaining)) =
    some (0xC2, 0x00, 0xC001, 0x01, 0xB0, 7) := by decide
theorem test_vector_LD8_22 : after (step { (code [0x2A]).writeByte 0xC100 0x44 with h := 0xC1, l := 0x00 })
    (fun t => (t.a, t.l, t.pc, t.f, t.remaining)) =
    some (0x44, 0x01, 0xC001, 0xB0, 7) := by decide
theorem test_vector_LD8_23 : after (step { code [0x32] with a := 0x05, h := 0xC1, l := 0x00 })
    (fun t => (t.h, t.l, t.pc, t.readByte 0xC100, t.f, t.remaining)) =
    some (0xC0, 0xFF, 0xC001, 0x05, 0xB0, 7) := by decide
theorem test_vector_LD8_24 : after (step { (code [0x3A]).writeByte 0x0000 0x5E with h := 0x00, l := 0x00 })
    (fun t => (t.a, t.h, t.l, t.pc, t.f, t.remaining)) =
    some (0x5E, 0xFF, 0xFF, 0xC001, 0xB0, 7) := by decide
theorem test_vector_ALU_1 : after (step { code [0x80] with a := 0x0F, b := 0x01, f := 0x00 })
    (fun t => (t.a, t.f, t.pc, t.remaining)) =
    some (0x10, 0x20, 0xC001, 3) := by decide
theorem test_vector_ALU_3 : after (step { code [0x80] with a := 0xFF, b := 0x01, f := 0x00 })
    (fun t => (t.a, t.f, t.pc, t.remaining)) =
    some (0x00, 0xB0, 0xC001, 3) := by decide
theorem test_vector_ALU_4 : after (step { (code [0x86]).writeByte 0xC100 0x34 with a := 0x12, h := 0xC1, l := 0x00, f := 0x00 })
    (fun t => (t.a, t.pc, t.f, t.remaining)) =
    some (0x46, 0xC001, 0x00, 7) := by decide
theorem test_vector_ALU_5 : after (step { code [0x87] with a := 0x88, f := 0x00 })
    (fun t => (t.a, t.f, t.pc, t.remaining)) =
    some (0x10, 0x30, 0xC001, 3) := by decide
theorem test_vector_ALU_6 : after (step { code [0xCE, 0x00] with a := 0x0F, f := 0x10 })
    (fun t => (t.a, t.f, t.pc, t.remaining)) =
    some (0x10, 0x20, 0xC002, 7) := by decide
theorem test_vector_ALU_11 : after (step { code [0x90] with a := 0x10, b := 0x01, f := 0x00 })
    (fun t => (t.a, t.f, t.pc, t.remaining)) =
    some (0x0F, 0x60, 0xC001, 3) := by decide
theorem test_vector_ALU_12 : after (step { code [0x90] with a := 0x00, b := 0x01, f := 0x00 })
    (fun t => (t.a, t.f, t.pc, t.remaining)) =
    some (0xFF, 0x70, 0xC001, 3) := by decide
theorem test_vector_ALU_14 : after (step { code [0x97] with a := 0x5A, f := 0x30 })
    (fun t => (t.a, t.f, t.pc, t.remaining)) =
    some (0x00, 0xC0, 0xC001, 3) := by decide
theorem test_vector_ALU_15 : after (step { code [0xD6, 0x0F] with a := 0x3E, f := 0x00 })
    (fun t => (t.a, t.f, t.pc, t.remaining)) =
    some (0x2F, 0x60, 0xC002, 7) := by decide
theorem test_vector_ALU_16 : after (step { code [0xDE, 0x0F] with a := 0x10, f := 0x10 })
    (fun t => (t.a, t.f, t.pc, t.remaining)) =
    some (0x00, 0xE0, 0xC002, 7) := by decide
theorem test_vector_ALU_17 : after (step { code [0xDE, 0xFF] with a := 0x00, f := 0x10 })
    (fun t => (t.f, t.pc, t.remaining)) =
    some (0xF0, 0xC002, 7) := by decide
theorem test_vector_ALU_18 : after (step { code [0x98] with a := 0x3B, b := 0x2A, f := 0x10 })
    (fun t => (t.a, t.f, t.pc, t.remaining)) =
    some (0x10, 0x40, 0xC001, 3) := by decide
theorem test_vector_ALU_19 : after (step { code [0x9F] with a := 0x12, f := 0x10 })
    (fun t => (t.a, t.f, t.pc, t.remaining)) =
    some (0xFF, 0x70, 0xC001, 3) := by decide
theorem test_vector_ALU_20 : after (step { code [0xA0] with a := 0xF0, b := 0x0F, f := 0x10 })
    (fun t => (t.a, t.f, t.pc, t.remaining)) =
    some (0x00, 0xA0, 0xC001, 3) := by decide
theorem test_vector_ALU_21 : after (step { code [0xE6, 0xA5] with a := 0xFF, f := 0x50 })
    (fun t => (t.a, t.f, t.pc, t.remaining)) =
    some (0xA5, 0x20, 0xC002, 7) := by decide
theorem test_vector_ALU_22 : after (step { code [0xAF] with a := 0x5A, f := 0x70 })
    (fun t => (t.a, t.f, t.pc, t.remaining)) =
    some (0x00, 0x80, 0xC001, 3) := by decide
theorem test_vector_ALU_23 : after (step { code [0xEE, 0xFF] with a := 0x0F, f := 0x00 })
    (fun t => (t.a, t.pc, t.f, t.remaining)) =
    some (0xF0, 0xC002, 0x00, 7) := by decide
theorem test_vector_ALU_24 : after (step { code [0xB0] with a := 0x00, b := 0x00, f := 0x70 })
    (fun t => (t.f, t.pc, t.remaining)) =
    some (0x80, 0xC001, 3) := by decide
theorem test_vector_ALU_25 : after (step { code [0xF6, 0x05] with a := 0x50, f := 0x00 })
    (fun t => (t.a, t.pc, t.f, t.remaining)) =
    some (0x55, 0xC002, 0x00, 7) := by decide
theorem test_vector_ALU_26 : after (step { code [0xFE, 0x3C] with a := 0x3C, f := 0x00 })
    (fun t => (t.f, t.pc, t.remaining)) =
    some (0xC0, 0xC002, 7) := by decide
theorem test_vector_ALU_27 : after (step { code [0xFE, 0x40] with a := 0x3C, f := 0x00 })
    (fun t => (t.f, t.pc, t.remaining)) =
    some (0x50, 0xC002, 7) := by decide
theorem test_vector_ALU_29 : after (step { (code [0xBE]).writeByte 0xC100 0x02 with a := 0x01, h := 0xC1, l := 0x00, f := 0x00 })
    (fun t => (t.f, t.pc, t.remaining)) =
    some (0x70, 0xC001, 7) := by decide
theorem test_vector_ALU_30 : after (step { code [0x04] with b := 0xFF, f := 0x10 })
    (fun t => (t.f, t.b, t.pc, t.remaining)) =
    some (0xB0, 0x00, 0xC001, 3) := by decide
theorem test_vector_ALU_32 : after (step { code [0x3C] with a := 0x7F, f := 0x00 })
    (fun t => (t.a, t.f, t.pc, t.remaining)) =
    some (0x80, 0x20, 0xC001, 3) := by decide
theorem test_vector_ALU_33 : after (step { (code [0x34]).writeByte 0xC100 0xFF with h := 0xC1, l := 0x00, f := 0x00 })
    (fun t => (t.f, t.pc, t.readByte 0xC100, t.remaining)) =
    some (0xA0, 0xC001, 0x00, 7) := by decide
theorem test_vector_ALU_34 : after (step { code [0x05] with b := 0x01, f := 0x00 })
    (fun t => (t.f, t.b, t.pc, t.remaining)) =
    some (0xC0, 0x00, 0xC001, 3) := by decide
theorem test_vector_ALU_36 : after (step { code [0x2D] with l := 0x10, f := 0x00 })
    (fun t => (t.f, t.l, t.pc, t.remaining)) =
    some (0x60, 0x0F, 0xC001, 3) := by decide
theorem test_vector_ALU_37 : after (step { (code [0x35]).writeByte 0xC100 0x01 with h := 0xC1, l := 0x00, f := 0x10 })
    (fun t => (t.f, t.pc, t.readByte 0xC100, t.remaining)) =
    some (0xD0, 0xC001, 0x00, 7) := by decide
theorem test_vector_ALU_38 : after (step { code [0x27] with a := 0x7D, f := 0x00 })
    (fun t => (t.a, t.pc, t.f, t.remaining)) =
    some (0x83, 0xC001, 0x00, 3) := by decide
theorem test_vector_ALU_42 : after (step { code [0x27] with a := 0x4B, f := 0x60 })
    (fun t => (t.a, t.f, t.pc, t.remaining)) =
    some (0x45, 0x40, 0xC001, 3) := by decide
theorem test_vector_ALU_46 : after (step { code [0x2F] with a := 0x35, f := 0x90 })
    (fun t => (t.a, t.f, t.pc, t.remaining)) =
    some (0xCA, 0xF0, 0xC001, 3) := by decide
theorem test_vector_ALU_47 : after (step { code [0x37] with f := 0xE0 })
    (fun t => (t.f, t.pc, t.remaining)) =
    some (0x90, 0xC001, 3) := by decide
theorem test_vector_ALU_48 : after (step { code [0x3F] with f := 0x70 })
    (fun t => (t.f, t.pc, t.remaining)) =
    some (0x00, 0xC001, 3) := by decide
theorem test_vector_ROT_1 : after (step { code [0x07] with a := 0x85, f := 0xE0 })
    (fun t => (t.a, t.f, t.pc, t.remaining)) =
    some (0x0B, 0x10, 0xC001, 3) := by decide
theorem test_vector_ROT_2 : after (step { code [0x07] with a := 0x00, f := 0x80 })
    (fun t => (t.f, t.pc, t.remaining)) =
    some (0x00, 0xC001, 3) := by decide
theorem test_vector_ROT_3 : after (step { code [0x0F] with a := 0x01, f := 0x00 })
    (fun t => (t.a, t.f, t.pc, t.remaining)) =
    some (0x80, 0x10, 0xC001, 3) := by decide
theorem test_vector_ROT_4 : after (step { code [0x17] with a := 0x80, f := 0x00 })
    (fun t => (t.a, t.f, t.pc, t.remaining)) =
    some (0x00, 0x10, 0xC001, 3) := by decide
theorem test_vector_ROT_6 : after (step { code [0x1F] with a := 0x01, f := 0x10 })
    (fun t => (t.a, t.pc, t.f, t.remaining)) =
    some (0x80, 0xC001, 0x10, 3) := by decide
theorem test_vector_ROT_7 : after (step { code [0xCB, 0x00] with b := 0x80, f := 0x00 })
    (fun t => (t.f, t.b, t.pc, t.remaining)) =
    some (0x10, 0x01, 0xC002, 7) := by decide
theorem test_vector_ROT_9 : after (step { code [0xCB, 0x09] with c := 0x01, f := 0x00 })
    (fun t => (t.f, t.c, t.pc, t.remaining)) =
    some (0x10, 0x80, 0xC002, 7) := by decide
theorem test_vector_ROT_10 : after (step { code [0xCB, 0x12] with d := 0x80, f := 0x10 })
    (fun t => (t.d, t.pc, t.f, t.remaining)) =
    some (0x01, 0xC002, 0x10, 7) := by decide
theorem test_vector_ROT_12 : after (step { code [0xCB, 0x1B] with e := 0x01, f := 0x00 })
    (fun t => (t.f, t.e, t.pc, t.remaining)) =
    some (0x90, 0x00, 0xC002, 7) := by decide
theorem test_vector_ROT_14 : after (step { code [0xCB, 0x24] with h := 0x80, f := 0x00 })
    (fun t => (t.f, t.h, t.pc, t.remaining)) =
    some (0x90, 0x00, 0xC002, 7) := by decide
theorem test_vector_ROT_16 : after (step { code [0xCB, 0x2D] with l := 0x81, f := 0x00 })
    (fun t => (t.f, t.l, t.pc, t.remaining)) =
    some (0x10, 0xC0, 0xC002, 7) := by decide
theorem test_vector_ROT_18 : after (step { code [0xCB, 0x37] with a := 0xF1, f := 0x70 })
    (fun t => (t.a, t.f, t.pc, t.remaining)) =
    some (0x1F, 0x00, 0xC002, 7) := by decide
theorem test_vector_ROT_20 : after (step { (code [0xCB, 0x3E]).writeByte 0xC100 0x01 with h := 0xC1, l := 0x00, f := 0x00 })
    (fun t => (t.f, t.pc, t.readByte 0xC100, t.remaining)) =
    some (0x90, 0xC002, 0x00, 11) := by decide
theorem test_vector_ROT_21 : after (step { code [0xCB, 0x3F] with a := 0x80, f := 0x10 })
    (fun t => (t.a, t.f, t.pc, t.remaining)) =
    some (0x40, 0x00, 0xC002, 7) := by decide
theorem test_vector_ROT_22 : after (step { code [0xCB, 0x47] with a := 0x01, f := 0xD0 })
    (fun t => (t.f, t.pc, t.remaining)) =
    some (0x30, 0xC002, 7) := by decide
theorem test_vector_ROT_23 : after (step { (code [0xCB, 0x5E]).writeByte 0xC100 0xF7 with h := 0xC1, l := 0x00, f := 0x00 })
    (fun t => (t.f, t.pc, t.remaining)) =
    some (0xA0, 0xC002, 11) := by decide
theorem test_vector_ROT_24 : after (step { code [0xCB, 0xBF] with a := 0xFF, f := 0x50 })
    (fun t => (t.a, t.pc, t.f, t.remaining)) =
    some (0x7F, 0xC002, 0x50, 7) := by decide
theorem test_vector_ROT_25 : after (step { (code [0xCB, 0x86]).writeByte 0xC100 0x01 with h := 0xC1, l := 0x00 })
    (fun t => (t.pc, t.readByte 0xC100, t.f, t.remaining)) =
    some (0xC002, 0x00, 0xB0, 11) := by decide
theorem test_vector_ROT_26 : after (step { code [0xCB, 0xC6] with h := 0xC1, l := 0x00, f := 0x00 })
    (fun t => (t.pc, t.readByte 0xC100, t.f, t.remaining)) =
    some (0xC002, 0x01, 0x00, 11) := by decide
theorem test_vector_ROT_27 : after (step { code [0xCB, 0xF8] with b := 0x00, f := 0x80 })
    (fun t => (t.b, t.pc, t.f, t.remaining)) =
    some (0x80, 0xC002, 0x80, 7) := by decide
theorem test_vector_A16_1 : after (step { code [0x09] with h := 0x0F, l := 0xFF, b := 0x00, c := 0x01, f := 0x80 })
    (fun t => (t.f, t.h, t.l, t.pc, t.remaining)) =
    some (0xA0, 0x10, 0x00, 0xC001, 7) := by decide
theorem test_vector_A16_2 : after (step { code [0x09] with h := 0xFF, l := 0xFF, b := 0x00, c := 0x01, f := 0x40 })
    (fun t => (t.f, t.h, t.l, t.pc, t.remaining)) =
    some (0x30, 0x00, 0x00, 0xC001, 7) := by decide
theorem test_vector_A16_3 : after (step { code [0x29] with h := 0x80, l := 0x00, f := 0x00 })
    (fun t => (t.f, t.h, t.pc, t.remaining)) =
    some (0x10, 0x00, 0xC001, 7) := by decide
theorem test_vector_A16_4 : after (step { code [0x39] with h := 0x00, l := 0xFF, sp := 0x0001, f := 0x00 })
    (fun t => (t.h, t.l, t.pc, t.f, t.remaining)) =
    some (0x01, 0x00, 0xC001, 0x00, 7) := by decide
theorem test_vector_A16_6 : after (step { code [0x33] with sp := 0xFFFF })
    (fun t => (t.sp, t.pc, t.f, t.remaining)) =
    some (0x0000, 0xC001, 0xB0, 7) := by decide
theorem test_vector_A16_8 : after (step { code [0x3B] with sp := 0x0000 })
    (fun t => (t.sp, t.pc, t.f, t.remaining)) =
    some (0xFFFF, 0xC001, 0xB0, 7) := by decide
theorem test_vector_A16_9 : after (step { code [0xE8, 0x08] with sp := 0xFFF8, f := 0xC0 })
    (fun t => (t.f, t.sp, t.pc, t.remaining)) =
    some (0x30, 0x0000, 0xC002, 15) := by decide
theorem test_vector_A16_11 : after (step { code [0xE8, 0x80] with sp := 0xD000, f := 0x00 })
    (fun t => (t.sp, t.pc, t.f, t.remaining)) =
    some (0xCF80, 0xC002, 0x00, 15) := by decide
theorem test_vector_A16_13 : after (step { code [0xF8, 0x02] with sp := 0xFFF8, f := 0xC0 })
    (fun t => (t.f, t.h, t.l, t.pc, t.remaining)) =
    some (0x00, 0xFF, 0xFA, 0xC002, 11) := by decide
theorem test_vector_L16_1 : after (step (code [0x01, 0x34, 0x12]))
    (fun t => (t.b, t.c, t.pc, t.f, t.remaining)) =
    some (0x12, 0x34, 0xC003, 0xB0, 11) := by decide
theorem test_vector_L16_2 : after (step (code [0x31, 0x00, 0xD0]))
    (fun t => (t.sp, t.pc, t.f, t.remaining)) =
    some (0xD000, 0xC003, 0xB0, 11) := by decide
theorem test_vector_L16_3 : after (step { code [0x08, 0x00, 0xC1] with sp := 0xABCD })
    (fun t => (t.pc, t.readByte 0xC100, t.readByte 0xC101, t.f, t.remaining)) =
    some (0xC003, 0xCD, 0xAB, 0xB0, 19) := by decide
theorem test_vector_L16_5 : after (step { code [0xF9] with h := 0xC1, l := 0x23 })
    (fun t => (t.sp, t.pc, t.f, t.remaining)) =
    some (0xC123, 0xC001, 0xB0, 7) := by decide
theorem test_vector_L16_6 : after (step { code [0xC5] with b := 0x12, c := 0x34, sp := 0xC100 })
    (fun t => (t.sp, t.pc, t.readByte 0xC0FE, t.readByte 0xC0FF, t.f, t.remaining)) =
    some (0xC0FE, 0xC001, 0x34, 0x12, 0xB0, 15) := by decide
theorem test_vector_L16_7 : after (step { code [0xF5] with a := 0x12, f := 0xF0, sp := 0xC100 })
    (fun t => (t.sp, t.pc, t.readByte 0xC0FE, t.readByte 0xC0FF, t.f, t.remaining)) =
    some (0xC0FE, 0xC001, 0xF0, 0x12, 0xF0, 15) := by decide
theorem test_vector_L16_8 : after (step { code [0xC5] with b := 0x12, c := 0x34, sp := 0x0001 })
    (fun t => (t.sp, t.pc, t.readByte 0x0000, t.readByte 0xFFFF, t.f, t.remaining)) =
    some (0xFFFF, 0xC001, 0x12, 0x34, 0xB0, 15) := by decide
theorem test_vector_L16_9 : after (step { ((code [0xD1]).writeByte 0xC100 0x34).writeByte 0xC101 0x12 with sp := 0xC100 })
    (fun t => (t.d, t.e, t.sp, t.pc, t.f, t.remaining)) =
    some (0x12, 0x34, 0xC102, 0xC001, 0xB0, 11) := by decide
theorem test_vector_L16_10 : after (step { ((code [0xE1]).writeByte 0xFFFF 0x34).writeByte 0x0000 0x12 with sp := 0xFFFF })
    (fun t => (t.h, t.l, t.sp, t.pc, t.f, t.remaining)) =
    some (0x12, 0x34, 0x0001, 0xC001, 0xB0, 11) := by decide
theorem test_vector_L16_11 : after (step { ((code [0xF1]).writeByte 0xC100 0xFF).writeByte 0xC101 0x12 with sp := 0xC100 })
    (fun t => (t.a, t.f, t.sp, t.pc, t.remaining)) =
    some (0x12, 0xF0, 0xC102, 0xC001, 11) := by decide
theorem test_vector_CF_1 : after (step (code [0xC3, 0x00, 0xC2]))
    (fun t => (t.pc, t.f, t.remaining)) =
    some (0xC200, 0xB0, 15) := by decide
theorem test_vector_CF_2 : after (step { code [0xCA, 0x00, 0xC2] with f := 0x80 })
    (fun t => (t.pc, t.f, t.remaining)) =
    some (0xC200, 0x80, 15) := by decide
theorem test_vector_CF_3 : after (step { code [0xCA, 0x00, 0xC2] with f := 0x00 })
    (fun t => (t.pc, t.f, t.remaining)) =
    some (0xC003, 0x00, 11) := by decide
theorem test_vector_CF_4 : after (step { code [0xE9] with h := 0x12, l := 0x34 })
    (fun t => (t.pc, t.f, t.remaining)) =
    some (0x1234, 0xB0, 3) := by decide
theorem test_vector_CF_5 : after (step (code [0x18, 0xFE]))
    (fun t => (t.f, t.pc, t.remaining)) =
    some (0xB0, 0xC000, 11) := by decide
theorem test_vector_CF_8 : after (step { code [0x38, 0x05] with f := 0x10 })
    (fun t => (t.pc, t.f, t.remaining)) =
    some (0xC007, 0x10, 11) := by decide
theorem test_vector_CF_9 : after (step { code [0xCD, 0x00, 0xC2] with sp := 0xD000 })
    (fun t => (t.sp, t.pc, t.readByte 0xCFFE, t.readByte 0xCFFF, t.f, t.remaining)) =
    some (0xCFFE, 0xC200, 0x03, 0xC0, 0xB0, 23) := by decide
theorem test_vector_CF_10 : after (step { code [0xD4, 0x00, 0xC2] with sp := 0xD000, f := 0x00 })
    (fun t => (t.sp, t.pc, t.readByte 0xCFFE, t.readByte 0xCFFF, t.f, t.remaining)) =
    some (0xCFFE, 0xC200, 0x03, 0xC0, 0x00, 23) := by decide
theorem test_vector_CF_11 : after (step { code [0xD4, 0x00, 0xC2] with sp := 0xD000, f := 0x10 })
    (fun t => (t.pc, t.f, t.remaining)) =
    some (0xC003, 0x10, 11) := by decide
theorem test_vector_CF_12 : after (step { ((code [0xC9]).writeByte 0xC100 0x34).writeByte 0xC101 0x12 with sp := 0xC100 })
    (fun t => (t.sp, t.pc, t.f, t.remaining)) =
    some (0xC102, 0x1234, 0xB0, 15) := by decide
theorem test_vector_CF_13 : after (step { ((code [0xC0]).writeByte 0xC100 0x34).writeByte 0xC101 0x12 with sp := 0xC100, f := 0x80 })
    (fun t => (t.pc, t.f, t.remaining)) =
    some (0xC001, 0x80, 7) := by decide
theorem test_vector_CF_14 : after (step { ((code [0xD9]).writeByte 0xC100 0x34).writeByte 0xC101 0x12 with sp := 0xC100, ime := false })
    (fun t => (t.sp, t.pc, t.ime, t.f, t.remaining)) =
    some (0xC102, 0x1234, true, 0xB0, 15) := by decide
theorem test_vector_CF_15 : after (step { code [0xFF] with sp := 0xD000 })
    (fun t => (t.sp, t.pc, t.readByte 0xCFFE, t.readByte 0xCFFF, t.f, t.remaining)) =
    some (0xCFFE, 0x0038, 0x01, 0xC0, 0xB0, 15) := by decide
theorem test_vector_CF_17 : after (step { code [0xEF] with sp := 0xD000 })
    (fun t => (t.sp, t.pc, t.readByte 0xCFFE, t.readByte 0xCFFF, t.f, t.remaining)) =
    some (0xCFFE, 0x0028, 0x01, 0xC0, 0xB0, 15) := by decide
theorem test_vector_SYS_1 : after (step (code [0x00]))
    (fun t => (t.pc, t.f, t.remaining)) =
    some (0xC001, 0xB0, 3) := by decide
theorem test_vector_SYS_3 : after (step { ((code [0x76]).writeByte 0xFFFF 0x04).writeByte 0xFF0F 0x04 with ime := false })
    (fun t => (t.pc, t.haltBug, t.f, t.remaining)) =
    some (0xC001, true, 0xB0, 3) := by decide
theorem test_vector_SYS_4 : after (step { ((code [0x76]).writeByte 0xFFFF 0xE0).writeByte 0xFF0F 0xE0 with ime := false })
    (fun t => (t.pc, t.halted, t.f, t.remaining)) =
    some (0xC001, true, 0xB0, 3) := by decide
theorem test_vector_SYS_6 : after (step (code [0x10, 0x00]))
    (fun t => (t.pc, t.stopped, t.f, t.remaining)) =
    some (0xC002, true, 0xB0, 3) := by decide
theorem test_vector_SYS_7 : after (step { code [0xF3] with ime := true })
    (fun t => (t.pc, t.ime, t.f, t.remaining)) =
    some (0xC001, false, 0xB0, 3) := by decide
theorem test_vector_SYS_10 : ∃ t, step { code [0xD3] with a := 0x11 } = .fault (.unimplementedOpcode 0xD3 0xC000 t) ∧ t.pc = 0xC001 ∧ t.total = 0 :=
  ⟨_, rfl, rfl, rfl⟩
theorem test_vector_SYS_11 : ∃ t, step (code [0xFD]) = .fault (.unimplementedOpcode 0xFD 0xC000 t) ∧ t.pc = 0xC001 ∧ t.total = 0 :=
  ⟨_, rfl, rfl, rfl⟩
theorem test_vector_INT_1 : after (step (({ code [0x00] with ime := true, sp := 0xD000 }).writeByte 0xFFFF 0x1F |>.writeByte 0xFF0F 0x1F))
    (fun t => (t.pc, t.readByte 0xFF0F, t.ime, t.sp, t.remaining)) = some (0x0040, 0x1E, false, 0xCFFE, 23) := by decide
theorem test_vector_INT_6 : after (step (({ code [0x00] with ime := true, sp := 0xD000 }).writeByte 0xFFFF 0x10 |>.writeByte 0xFF0F 0x10))
    (fun t => (t.pc, t.readByte 0xFF0F, t.ime, t.sp, t.remaining)) = some (0x0060, 0x00, false, 0xCFFE, 23) := by decide
theorem test_vector_INT_7 : after (step (({ code [0x00] with ime := true, sp := 0xD000 }).writeByte 0xFFFF 0x1E |>.writeByte 0xFF0F 0x12))
    (fun t => (t.pc, t.readByte 0xFF0F, t.ime, t.sp, t.remaining)) = some (0x0048, 0x10, false, 0xCFFE, 23) := by decide
theorem test_vector_INT_9 : after (step (({ code [0x00] with ime := true, sp := 0xD000 }).writeByte 0xFFFF 0xE0 |>.writeByte 0xFF0F 0xE0))
    (fun t => (t.pc, t.readByte 0xFF0F, t.ime, t.sp, t.remaining)) = some (0xC001, 0xE0, true, 0xD000, 3) := by decide
theorem test_vector_INT_12 : after (step (({ code [0x00] with ime := true, sp := 0xD000 }).writeByte 0xFFFF 0xFF |>.writeByte 0xFF0F 0xF0))
    (fun t => (t.pc, t.readByte 0xFF0F, t.ime, t.sp, t.remaining)) = some (0x0060, 0xE0, false, 0xCFFE, 23) := by decide
theorem test_vector_TMR_2_last_tick :
    after (step (({ State.reset with stopped := true, total := 255 } : State).writeByte 0xFF04 0x00 |>.writeByte 0xFF05 0x00 |>.writeByte 0xFF06 0x00
      |>.writeByte 0xFF07 0x00)) (fun t => (t.readByte 0xFF04, t.readByte 0xFF05, t.readByte 0xFF0F)) =
    some (0x01, 0x00, 0x00) := by decide
theorem test_vector_TMR_3_last_tick :
    after (step (({ State.reset with stopped := true, total := 255 } : State).writeByte 0xFF04 0xFF |>.writeByte 0xFF05 0x00 |>.writeByte 0xFF06 0x00
      |>.writeByte 0xFF07 0x00)) (fun t => (t.readByte 0xFF04, t.readByte 0xFF05, t.readByte 0xFF0F)) =
    some (0x00, 0x00, 0x00) := by decide
theorem test_vector_TMR_5_last_tick :
    after (step (({ State.reset with stopped := true, total := 14 } : State).writeByte 0xFF04 0x00 |>.writeByte 0xFF05 0x00 |>.writeByte 0xFF06 0x00
      |>.writeByte 0xFF07 0x05)) (fun t => (t.readByte 0xFF04, t.readByte 0xFF05, t.readByte 0xFF0F)) =
    some (0x00, 0x00, 0x00) := by decide
theorem test_vector_TMR_6_last_tick :
    after (step (({ State.reset with stopped := true, total := 15 } : State).writeByte 0xFF04 0x00 |>.writeByte 0xFF05 0x00 |>.writeByte 0xFF06 0x00
      |>.writeByte 0xFF07 0x05)) (fun t => (t.readByte 0xFF04, t.readByte 0xFF05, t.readByte 0xFF0F)) =
    some (0x00, 0x01, 0x00) := by decide
theorem test_vector_TMR_10_last_tick :
    after (step (({ State.reset with stopped := true, total := 1023 } : State).writeByte 0xFF04 0x03 |>.writeByte 0xFF05 0x00 |>.writeByte 0xFF06 0x00
      |>.writeByte 0xFF07 0x04)) (fun t => (t.readByte 0xFF04, t.readByte 0xFF05, t.readByte 0xFF0F)) =
    some (0x04, 0x01, 0x00) := by decide
theorem test_vector_TMR_11_last_tick :
    after (step (({ State.reset with stopped := true, total := 1023 } : State).writeByte 0xFF04 0x03 |>.writeByte 0xFF05 0x00 |>.writeByte 0xFF06 0x00
      |>.writeByte 0xFF07 0x01)) (fun t => (t.readByte 0xFF04, t.readByte 0xFF05, t.readByte 0xFF0F)) =
    some (0x04, 0x00, 0x00) := by decide
theorem test_vector_TMR_12_last_tick :
    after (step (({ State.reset with stopped := true, total := 15 } : State).writeByte 0xFF04 0x00 |>.writeByte 0xFF05 0xFF |>.writeByte 0xFF06 0xAB
      |>.writeByte 0xFF07 0x05)) (fun t => (t.readByte 0xFF04, t.readByte 0xFF05, t.readByte 0xFF0F)) =
    some (0x00, 0xAB, 0x04) := by decide
/-- E7's second fetch of the byte after HALT leaves PC (R103). -/
theorem test_halt_bug_fetch : after (step { code [0x3C] with haltBug := true }) (fun t => (t.a, t.pc, t.haltBug)) =
    some (0x02, 0xC000, false) := by decide

/-! ## Witnesses: a concrete state and operands that meet each obligation's hypotheses -/

/-- A machine of the spec with no parameter at its default. -/
def otherParams : Params where
  mem0 := fun x => lowByte x
  ieAddr := 0xFF90
  ifAddr := 0xFF91
  divAddr := 0xFF92
  timaAddr := 0xFF93
  tmaAddr := 0xFF94
  tacAddr := 0xFF95
  eiDelay := .afterNextInstruction
  serviceClearsHalt := true
  midOrder := .timerLast
  stopLength := .one
  opcodeCost := fun op => if op = 0x76 then 2 else 1
  cbCost := fun cb => cb.toNat
  illegalSet := [0x00, 0xC3]
  resetRegs := { af := 0x11FF, bc := 0x2233, de := 0x4455, hl := 0x6677, sp := 0x8899, pc := 0xAABB }

/-- The two machines' timer addresses are distinct, and HALT and EI are legal in both. -/
theorem witness_otherParams : timerAddrsDistinct engineParams ∧ timerAddrsDistinct otherParams ∧
    0x76 ∉ otherParams.illegalSet ∧ 0x76 ∉ engineParams.illegalSet ∧ 1 ≤ otherParams.opcodeCost 0x76 := by
  unfold timerAddrsDistinct; decide
/-- CYCLE_COST as an argument: `SWAP A` costs 1 and 0x37, which are not the default's 4 and 4. -/
theorem test_cost_parameter : after (stepWith otherParams (code [0xCB, 0x37])) (fun t => (t.a, t.remaining)) =
    some (0x10, 0x37) := by decide
/-- The addresses as arguments: a request at the other IE and IF wakes HALT, one at the default addresses does not. -/
theorem test_address_parameters :
    after (stepWith otherParams { ((code [0x3C]).writeByte 0xFF90 0x01).writeByte 0xFF91 0x01 with halted := true })
      (fun t => (t.a, t.halted)) = some (0x02, false) ∧
    after (stepWith otherParams { ((code [0x3C]).writeByte 0xFFFF 0x01).writeByte 0xFF0F 0x01 with halted := true })
      (fun t => (t.a, t.halted)) = some (0x01, true) := by decide
/-- ILLEGAL_SET as an argument: a byte put into it faults after the opcode fetch alone. -/
theorem test_illegal_set_parameter : ∃ t, stepWith otherParams (code [0xC3, 0x00, 0xC2]) =
    .fault (.unimplementedOpcode 0xC3 0xC000 t) ∧ t.pc = 0xC001 ∧ t.opcode = 0xC3 ∧ t.total = 0 := ⟨_, rfl, rfl, rfl, rfl⟩

/-- A ready core with some bytes at PC. -/
theorem witness_ready : (code [0x00]).ready ∧ (code [0x00]).fetches engineParams := ⟨⟨rfl, rfl, rfl⟩, rfl, fun h => absurd h (by decide), rfl⟩

theorem witness_LoadOperandMovesOneByte : ¬(Operand8.reg .h = .memHL ∧ Operand8.memHL = .memHL) ∧
    ¬(Operand8.memHL = .memHL ∧ Operand8.reg .l = .memHL) := by decide

/-- Each source form of R140 for an operation of each of the three flag groups. -/
theorem witness_AddAndAdcComputeSumAndFlags : isAluForm .add State.reset .addAB State.reset.b ∧
    isAluForm .adc State.reset .adcAMemHL (State.reset.readByte State.reset.hl) ∧
    isAluForm .adc State.reset (.adcAN8 0xFF) 0xFF :=
  ⟨.inl ⟨.reg .b, rfl, rfl, rfl, rfl⟩, .inl ⟨.memHL, rfl, rfl, rfl, rfl⟩, .inr ⟨rfl, rfl, rfl⟩⟩
theorem witness_SubSbcAndCpComputeDifferenceAndFlags : isAluForm .sub State.reset .subAA State.reset.a ∧
    isAluForm .sbc State.reset .sbcAMemHL (State.reset.readByte State.reset.hl) ∧
    isAluForm .cp State.reset (.cpAN8 0x3C) 0x3C :=
  ⟨.inl ⟨.reg .a, rfl, rfl, rfl, rfl⟩, .inl ⟨.memHL, rfl, rfl, rfl, rfl⟩, .inr ⟨rfl, rfl, rfl⟩⟩
theorem witness_AndXorOrComputeBitwiseResultAndFlags : isAluForm .and State.reset .andAB State.reset.b ∧
    isAluForm .xor State.reset .xorAMemHL (State.reset.readByte State.reset.hl) ∧
    isAluForm .or State.reset (.orAN8 0x05) 0x05 :=
  ⟨.inl ⟨.reg .b, rfl, rfl, rfl, rfl⟩, .inl ⟨.memHL, rfl, rfl, rfl, rfl⟩, .inr ⟨rfl, rfl, rfl⟩⟩
theorem witness_AccumulatorOperationsHaveThreeSourceForms : State.reset.readOperand (.reg .c) = 0x13 := by decide
/-- Both branches of DAA: N = 0 and N = 1. -/
theorem witness_DaaAdjustsAccumulator : ({ State.reset with f := 0x00 } : State).flagN = false ∧
    ({ State.reset with f := 0x60 } : State).flagN = true := by decide
/-- The boundary values 0 + 0 and 99 + 99, and the carry boundary 50 + 50. -/
theorem witness_AddThenDaaAddsPackedBcd : ({ State.reset with a := 0x99 } : State).a = bcd 99 ∧
    ({ State.reset with a := 0x00 } : State).a = bcd 0 ∧ ({ State.reset with a := 0x50 } : State).a = bcd 50 := by decide
theorem witness_AccumulatorRotatesClearZero : (Instr.rra, RotOp.rr, (0x1F : Byte)) ∈
    [(Instr.rlca, RotOp.rlc, (0x07 : Byte)), (Instr.rrca, RotOp.rrc, (0x0F : Byte)),
      (Instr.rla, RotOp.rl, (0x17 : Byte)), (Instr.rra, RotOp.rr, (0x1F : Byte))] := by decide
/-- Each condition holds in one of these two states and fails in the other. -/
theorem witness_ConditionalJumpsTestOneFlag : ({ State.reset with f := 0x90 } : State).flagZ = true ∧
    ({ State.reset with f := 0x90 } : State).flagC = true ∧ ({ State.reset with f := 0x00 } : State).flagZ = false ∧
    ({ State.reset with f := 0x00 } : State).flagC = false := by decide
theorem witness_ConditionalCallPushesOnlyWhenTaken : ({ State.reset with f := 0x00 } : State).cond .nc = true ∧
    ({ State.reset with f := 0x10 } : State).cond .nc = false := by decide
theorem witness_ConditionalReturnPopsOnlyWhenTaken : ({ State.reset with f := 0x80 } : State).cond .z = true ∧
    ({ State.reset with f := 0x80 } : State).cond .nz = false := by decide
theorem witness_ReturnUndoesCall : ((∃ n, Instr.callN16 0xC200 = .callN16 n) ∨ ∃ y, Instr.callN16 0xC200 = rstInstr y) ∧
    ((∃ n, Instr.rst38 = .callN16 n) ∨ ∃ y, Instr.rst38 = rstInstr y) := ⟨.inl ⟨_, rfl⟩, .inr ⟨7, rfl⟩⟩
/-- HALT with and without the HALT bug's condition. -/
theorem witness_HaltHaltsOrArmsHaltBug :
    (((State.reset.writeByte 0xFFFF 0x04).writeByte 0xFF0F 0x04).ime = false ∧
      ((State.reset.writeByte 0xFFFF 0x04).writeByte 0xFF0F 0x04).pending engineParams = 0x04) ∧ State.reset.pending engineParams = 0x00 := by decide
theorem witness_IllegalBytesFault : Instr.illegalD3.hasTableEntry = false ∧ Instr.illegalFD.hasTableEntry = false := by decide
theorem witness_StepRunsTheDecodedInstruction : (code [0x3E, 0x42]).ready ∧ (Instr.ldAN8 0x42).wellFormed = true ∧
    decode [(code [0x3E, 0x42]).readByte (code [0x3E, 0x42]).pc, (code [0x3E, 0x42]).readByte (code [0x3E, 0x42]).operandAddr,
      (code [0x3E, 0x42]).readByte ((code [0x3E, 0x42]).operandAddr + 1)] = .ok (.ldAN8 0x42) := ⟨⟨rfl, rfl, rfl⟩, rfl, rfl⟩
theorem witness_StepRunsTheDecodedInstruction_next :
    after (exec (.ldAN8 0x42) ((code [0x3E, 0x42]).afterFetch .two)) (fun u => (u.a, u.pc)) = some (0x42, 0xC002) := by decide
theorem witness_StepAnswersNextOrTheOneFault : (code [0xFD]).fetches engineParams ∧ (code [0xFD]).readByte (code [0xFD]).pc ∈ illegalSet ∧
    (code [0x00]).readByte (code [0x00]).pc ∉ illegalSet ∧
    illegalByte otherParams 0x00 ∧ illegalByte otherParams 0xD3 ∧ ¬illegalByte otherParams 0x01 :=
  ⟨⟨rfl, fun h => absurd h (by decide), rfl⟩, by decide, by decide, .inl (by decide), .inr (by decide),
    by unfold illegalByte; decide⟩
/-- A Halted core that a pending interrupt wakes fetches in the same step. -/
theorem witness_fetches_by_wake :
    ({ ((code [0x3C]).writeByte 0xFFFF 0x01).writeByte 0xFF0F 0x01 with halted := true } : State).fetches engineParams ∧
    after (step { ((code [0x3C]).writeByte 0xFFFF 0x01).writeByte 0xFF0F 0x01 with halted := true })
      (fun t => (t.a, t.halted)) = some (0x02, false) := ⟨⟨rfl, fun _ => by decide, rfl⟩, by decide⟩
theorem witness_StoppedStepOnlyTicksTimer : ({ code [0x00] with stopped := true } : State).stopped = true ∧
    after (step { code [0x00] with stopped := true }) (fun t => (t.pc, t.total)) = some (0xC000, 1) := by decide
theorem witness_HaltedStepWaitsOrWakes : ({ code [0x00] with halted := true } : State).pending engineParams = 0 ∧
    ({ ((code [0x00]).writeByte 0xFFFF 0x10).writeByte 0xFF0F 0x10 with halted := true } : State).pending engineParams = 0x10 ∧
    after (step { code [0x00] with halted := true }) (fun t => (t.pc, t.halted)) = some (0xC000, true) := by decide
/-- A mid-instruction step without and with an interrupt entry. -/
theorem witness_MidInstructionStepTouchesNoInstructionResult :
    after (step { code [0x00] with remaining := 3 }) (fun t => (t.pc, t.remaining)) = some (0xC000, 2) ∧
    after (step { ((code [0x00]).writeByte 0xFFFF 0x10).writeByte 0xFF0F 0x10 with remaining := 3, ime := true })
      (fun t => (t.pc, t.remaining, t.ime)) = some (0x0060, 22, false) := by decide
/-- The lowest and the highest of the five sources, and the two ways nothing is entered. -/
theorem witness_InterruptCheckEntersLowestPendingSource :
    (((((code []).writeByte 0xFFFF 0x1F).writeByte 0xFF0F 0x1F).pending engineParams).getLsbD 0 = true) ∧
    (((((code []).writeByte 0xFFFF 0x1F).writeByte 0xFF0F 0xF0).pending engineParams).getLsbD 4 = true) ∧
    (∀ j < 4, ((((code []).writeByte 0xFFFF 0x1F).writeByte 0xFF0F 0xF0).pending engineParams).getLsbD j = false) ∧
    (((code []).writeByte 0xFFFF 0xE0).writeByte 0xFF0F 0xE0).pending engineParams = 0 ∧
    0xFF0F ∉ [(code []).sp - 1, (code []).sp - 2] := by decide
theorem witness_HaltWithPendingInterruptEntersThenMayStayHalted :
    ({ ((code [0x76]).writeByte 0xFFFF 0x04).writeByte 0xFF0F 0x04 with ime := true } : State).readByte 0xC000 = 0x76 ∧
    ({ ((code [0x76]).writeByte 0xFFFF 0x04).writeByte 0xFF0F 0x04 with ime := true } : State).pending engineParams = 0x04 := by decide
/-- Each clause: EI's own step; a mid step in the two modes, without and with an entry; a fetch step that finds the
enable pending, without and with an entry; DI cancelling it. -/
theorem witness_EnableTakesEffectOneStepAfterEI :
    after (stepWith engineParams (code [0xFB])) (fun t => (t.ime, t.imePending, t.remaining)) = some (false, true, 3) ∧
    after (stepWith engineParams { code [0x00] with remaining := 3, imePending := true })
      (fun t => (t.ime, t.imePending, t.sp)) = some (true, false, 0xFFFE) ∧
    after (stepWith engineParams { ((code [0x00]).writeByte 0xFFFF 0x01).writeByte 0xFF0F 0x01 with remaining := 3, imePending := true })
      (fun t => (t.ime, t.imePending, t.sp)) = some (false, false, 0xFFFC) ∧
    after (stepWith otherParams { code [0x01] with remaining := 3, imePending := true })
      (fun t => (t.ime, t.imePending)) = some (false, true) ∧
    after (stepWith otherParams { code [0x3C] with imePending := true })
      (fun t => (t.a, t.ime, t.imePending)) = some (0x02, true, false) ∧
    after (stepWith otherParams { ((code [0x3C]).writeByte 0xFF90 0x01).writeByte 0xFF91 0x01 with imePending := true })
      (fun t => (t.a, t.ime, t.imePending, t.sp)) = some (0x02, false, false, 0xFFFC) ∧
    after (stepWith otherParams { code [0xF3] with imePending := true })
      (fun t => (t.ime, t.imePending, t.pc)) = some (false, false, 0xC001) := by decide
/-- TIMA counting with and without overflow, and not counting. -/
theorem witness_TimerTickDrivesDividerAndCounter :
    ((State.reset.writeByte 0xFF07 0x05).readByte 0xFF07).getLsbD 2 = true ∧ (15 + 1) % 16 = 0 ∧
    (({ State.reset with total := 15 }.writeByte 0xFF07 0x05).timerTick engineParams).readByte 0xFF05 = 0x01 ∧
    ((({ State.reset with total := 15 }.writeByte 0xFF07 0x05).writeByte 0xFF05 0xFF).timerTick engineParams).readByte 0xFF0F = 0x04 ∧
    (({ State.reset with total := 14 }.writeByte 0xFF07 0x05).timerTick engineParams).readByte 0xFF05 = 0x00 := by decide
/-- RETI with nothing pending, running with IME = 1, a CB row, and DI with an enable pending (no source is entered). -/
theorem witness_FetchStepChargesCostLessOne_next :
    after (step (code [0xD9])) (fun t => (t.ime, t.remaining)) = some (true, 15) ∧
    lowestSource ((code [0xD9]).pending engineParams) = none ∧
    after (step { code [0xCB, 0x46] with ime := true }) (fun t => t.remaining) = some 11 ∧
    after (step { ((code [0xF3]).writeByte 0xFFFF 0x01).writeByte 0xFF0F 0x01 with imePending := true })
      (fun t => (t.ime, t.remaining)) = some (false, 3) ∧
    1 ≤ costOf otherParams .nop := by decide
/-- A taken jump, a taken call, an untaken jump, and an instruction without a condition. -/
theorem witness_FetchStepChargesCostLessOne :
    (code [0xC3, 0x00, 0xC2]).fetchedInstr = .jpN16 0xC200 ∧ (code [0xC2, 0x00, 0xC2]).fetchedInstr = jumpCondInstr .nz 0xC200 ∧
    (code [0xCC, 0x00, 0xC2]).fetchedInstr = callCondInstr .z 0xC200 ∧
    after (exec (code [0xCC, 0x00, 0xC2]).fetchedInstr ((code [0xCC, 0x00, 0xC2]).afterFetch .two))
      (fun u => (u.remaining, u.ime)) = some (12, false) ∧
    after (exec (code [0xC2, 0x00, 0xC2]).fetchedInstr ((code [0xC2, 0x00, 0xC2]).afterFetch .two))
      (fun u => (u.remaining, u.ime)) = some (0, false) := by decide
theorem witness_DecodeOfEncodeIsTheInstruction : (Instr.ldBCN16 0x1234).selfContained = true ∧
    decode (encode (.ldBCN16 0x1234) ++ [0xFF]) = .ok (.ldBCN16 0x1234) := ⟨rfl, rfl⟩
theorem witness_IllegalSetIsExactlyElevenBytes : (decodeBytes 0xD3 0 0).hasTableEntry = false ∧
    (decodeBytes 0xD4 0 0).hasTableEntry = true := by decide

/-- The invariant holds in a state that is running an instruction, with IME and the pending enable set, at the bound. -/
theorem witness_EveryStepKeepsInvariant :
    ({ code [0x00] with remaining := 23, ime := true, imePending := true } : State).Inv 24 :=
  ⟨by unfold State.memoryCanonical; decide, by unfold State.flagNibbleZero; decide,
    by unfold State.phasesExclusive; decide, by unfold State.cyclesBounded; decide⟩
theorem witness_EveryStepKeepsInvariant_step :
    costsWithin engineParams 24 ∧ after (step { code [0x00] with remaining := 23, ime := true, imePending := true }) (fun t => (t.remaining, t.ime)) =
      some (22, true) := ⟨costsWithin_engineParams, by decide⟩
theorem witness_InFlightCyclesRunOutWithin63Steps : ({ code [0x00] with remaining := 2 } : State).Inv 24 ∧
    after (runWith engineParams 2 { code [0x00] with remaining := 2 }) (fun t => t.phase) = some .readyToFetch :=
  ⟨⟨by unfold State.memoryCanonical; decide, by unfold State.flagNibbleZero; decide,
    by unfold State.phasesExclusive; decide, by unfold State.cyclesBounded; decide⟩, by decide⟩
/-- Reset under other parameters, and a byte of their MEM0 at power-on. -/
theorem witness_ResetSetsDocumentedValues :
    (State.reset.hostReset otherParams).a = 0x11 ∧ (State.reset.hostReset otherParams).f = 0xF0 ∧
    (State.reset.hostReset otherParams).pc = 0xAABB ∧ (State.launch otherParams).readByte 0x1234 = 0x34 :=
  ⟨rfl, rfl, rfl, State.readByte_launch otherParams 0x1234⟩
/-- Each way an instruction changes SP, from 0xFFFE. -/
theorem witness_SPChangesOnlyByStackInstructions_amounts :
    [.pushBC, .callN16 0x1234, .callNZN16 0x1234, .rst00, .popBC, .ret, .retNZ, .reti, .ldSPN16 0x1234, .ldSPHL, .addSPE8 0xFE,
      .addSPE8 0x7F, .incSP, .decSP].map (fun i => after (exec i { State.reset with f := 0x00 }) (fun t => t.sp)) =
    [some 0xFFFC, some 0xFFFC, some 0xFFFC, some 0xFFFC, some 0x0000, some 0x0000, some 0x0000, some 0x0000, some 0x1234,
      some 0x014D, some 0xFFFC, some 0x007D, some 0xFFFF, some 0xFFFD] := by decide
/-- A PUSH changes SP, and so does an interrupt entry in a step that does not fetch. -/
theorem witness_SPChangesOnlyByStackInstructions :
    after (exec .pushBC State.reset) (fun t => t.sp) = some 0xFFFC ∧
    ¬({ ((code []).writeByte 0xFFFF 0x01).writeByte 0xFF0F 0x01 with remaining := 1, ime := true } : State).fetches engineParams ∧
    after (step { ((code []).writeByte 0xFFFF 0x01).writeByte 0xFF0F 0x01 with remaining := 1, ime := true })
      (fun t => (t.sp, t.ime)) = some (0xFFFC, false) := ⟨by decide, fun h => absurd h.2.2 (by decide), by decide⟩
/-- RETI raises IME, and so does a step that finds the enable pending. -/
theorem witness_ImeRisesOnlyByRetiOrPendingEnable :
    after (step (code [0xD9])) (fun t => t.ime) = some true ∧
    after (step { code [0x00] with imePending := true }) (fun t => (t.ime, t.imePending)) = some (true, false) := by decide
theorem witness_NonFlagInstructionsKeepF : after (exec .popAF State.reset) (fun t => t.readF) = some 0x00 ∧
    State.reset.readF = 0xB0 := by decide
/-- The two runs of the noninterference statements: total 1024 higher, and another latched opcode. -/
theorem witness_TotalCountsStepsAndOnlyItsResidueMatters :
    after (step (code [0x3C])) (fun t => t.total) = some 1 ∧
    after (step { code [0x3C] with total := 1024 }) (fun t => (t.a, t.total)) = some (0x02, 1025) := by decide
theorem witness_OpcodeLatchIsNeverRead :
    ∃ t, step (code [0xD3]) = .fault (.unimplementedOpcode 0xD3 0xC000 t) ∧
      step { code [0xD3] with opcode := 0x55, opcodeAddr := 0x1234 } = .fault (.unimplementedOpcode 0xD3 0xC000 t) :=
  ⟨_, rfl, rfl⟩

end Sys2Proof.Tests
end

section
/-! SUPPORT. The bytes of ILLEGAL_SET in the decoder: their fields, what they decode to, and that no other byte decodes to an instruction without a table entry (`30_encoding.md` R79). -/

namespace Sys2Proof.Proofs.Scope

open Sys2Proof Sys2Proof.Machine

/-! ## A family's rows all have a table entry -/

@[simp] theorem hasTableEntry_loadInstr (d src : Operand8) : (loadInstr d src).hasTableEntry = true := by
  rcases d with ⟨⟨⟩⟩ | _ <;> rcases src with ⟨⟨⟩⟩ | _ <;> rfl

@[simp] theorem hasTableEntry_loadImmInstr (d : Operand8) (n : Byte) : (loadImmInstr d n).hasTableEntry = true := by
  rcases d with ⟨⟨⟩⟩ | _ <;> rfl

@[simp] theorem hasTableEntry_aluInstr (o : AluOp) (src : Operand8) : (aluInstr o src).hasTableEntry = true := by
  cases o <;> rcases src with ⟨⟨⟩⟩ | _ <;> rfl

@[simp] theorem hasTableEntry_aluImmInstr (o : AluOp) (n : Byte) : (aluImmInstr o n).hasTableEntry = true := by
  cases o <;> rfl

@[simp] theorem hasTableEntry_incInstr (d : Operand8) : (incInstr d).hasTableEntry = true := by
  rcases d with ⟨⟨⟩⟩ | _ <;> rfl

@[simp] theorem hasTableEntry_decInstr (d : Operand8) : (decInstr d).hasTableEntry = true := by
  rcases d with ⟨⟨⟩⟩ | _ <;> rfl

@[simp] theorem hasTableEntry_rotInstr (o : RotOp) (d : Operand8) : (rotInstr o d).hasTableEntry = true := by
  cases o <;> rcases d with ⟨⟨⟩⟩ | _ <;> rfl

@[simp] theorem hasTableEntry_bitInstr (b : Fin 8) (d : Operand8) : (bitInstr b d).hasTableEntry = true := by
  fin_cases b <;> rcases d with ⟨⟨⟩⟩ | _ <;> rfl

@[simp] theorem hasTableEntry_resInstr (b : Fin 8) (d : Operand8) : (resInstr b d).hasTableEntry = true := by
  fin_cases b <;> rcases d with ⟨⟨⟩⟩ | _ <;> rfl

@[simp] theorem hasTableEntry_setInstr (b : Fin 8) (d : Operand8) : (setInstr b d).hasTableEntry = true := by
  fin_cases b <;> rcases d with ⟨⟨⟩⟩ | _ <;> rfl

@[simp] theorem hasTableEntry_loadPairInstr (rp : Pair) (n : Word) : (loadPairInstr rp n).hasTableEntry = true := by
  cases rp <;> rfl

@[simp] theorem hasTableEntry_addHLInstr (rp : Pair) : (addHLInstr rp).hasTableEntry = true := by cases rp <;> rfl

@[simp] theorem hasTableEntry_incPairInstr (rp : Pair) : (incPairInstr rp).hasTableEntry = true := by cases rp <;> rfl

@[simp] theorem hasTableEntry_decPairInstr (rp : Pair) : (decPairInstr rp).hasTableEntry = true := by cases rp <;> rfl

@[simp] theorem hasTableEntry_pushInstr (q : StackPair) : (pushInstr q).hasTableEntry = true := by cases q <;> rfl

@[simp] theorem hasTableEntry_popInstr (q : StackPair) : (popInstr q).hasTableEntry = true := by cases q <;> rfl

@[simp] theorem hasTableEntry_jumpCondInstr (cc : Cond) (n : Word) : (jumpCondInstr cc n).hasTableEntry = true := by
  cases cc <;> rfl

@[simp] theorem hasTableEntry_jumpRelCondInstr (cc : Cond) (e : Byte) :
    (jumpRelCondInstr cc e).hasTableEntry = true := by
  cases cc <;> rfl

@[simp] theorem hasTableEntry_callCondInstr (cc : Cond) (n : Word) : (callCondInstr cc n).hasTableEntry = true := by
  cases cc <;> rfl

@[simp] theorem hasTableEntry_retCondInstr (cc : Cond) : (retCondInstr cc).hasTableEntry = true := by cases cc <;> rfl

@[simp] theorem hasTableEntry_rstInstr (y : Fin 8) : (rstInstr y).hasTableEntry = true := by fin_cases y <;> rfl

/-! ## The decoder's blocks -/

@[simp] theorem hasTableEntry_decodeCb (cb : Byte) : (decodeCb cb).hasTableEntry = true := by
  unfold decodeCb
  split <;> simp

/-- No byte of block 0 is illegal. -/
theorem hasTableEntry_decodeBlock0 (op b1 : Byte) (n : Word) : (decodeBlock0 op b1 n).hasTableEntry = true := by
  unfold decodeBlock0
  split
  case h_1 =>
    split
    case h_5 | h_6 | h_7 | h_8 => simp
    all_goals rfl
  case h_2 => split <;> simp
  case h_3 => split <;> rfl
  case h_4 => split <;> simp
  case h_5 => simp
  case h_6 => simp
  case h_7 => simp
  case h_8 => split <;> rfl

/-- ILLEGAL_SET by its fields: outside it, a byte of block 3 is none of the table's empty cells (R77, R79). -/
theorem fields_of_legal : ∀ op : Byte, op ∉ illegalSet → fieldX op = 3 →
    (fieldZ op = 3 → fieldY op ∉ [2, 3, 4, 5]) ∧ (fieldZ op = 4 → fieldY op ∉ [4, 5, 6, 7]) ∧
    (fieldZ op = 5 → fieldQ op = 1 → fieldP op = 0) := by
  decide +kernel

/-- A byte of block 3 outside ILLEGAL_SET has a table entry. -/
theorem hasTableEntry_decodeBlock3 {op : Byte} (hl : op ∉ illegalSet) (hx : fieldX op = 3) (b1 : Byte) (n : Word) :
    (decodeBlock3 op b1 n).hasTableEntry = true := by
  obtain ⟨cell3, cell4, cell5⟩ := fields_of_legal op hl hx
  unfold decodeBlock3
  split
  case h_1 =>
    split
    case h_1 | h_2 | h_3 | h_4 => simp
    all_goals rfl
  case h_2 =>
    split
    · simp
    · split <;> rfl
  case h_3 =>
    split
    case h_1 | h_2 | h_3 | h_4 => simp
    all_goals rfl
  case h_4 hz =>
    split
    case h_2 => simp
    case h_3 hy | h_4 hy | h_5 hy | h_6 hy => simpa [hy] using cell3 hz
    all_goals rfl
  case h_5 hz =>
    split
    case h_5 hy | h_6 hy | h_7 hy | h_8 hy => simpa [hy] using cell4 hz
    all_goals simp
  case h_6 hz =>
    split
    · simp
    · next hq => rw [cell5 hz hq]; rfl
  case h_7 => simp
  case h_8 => simp

/-- A byte outside ILLEGAL_SET decodes to an instruction with a table entry, whatever bytes follow it (R82). -/
theorem hasTableEntry_decodeBytes {op : Byte} (hl : op ∉ illegalSet) (b1 b2 : Byte) :
    (decodeBytes op b1 b2).hasTableEntry = true := by
  unfold decodeBytes
  split
  case h_1 => exact hasTableEntry_decodeBlock0 ..
  case h_2 => simp
  case h_3 => simp
  case h_4 hx => exact hasTableEntry_decodeBlock3 hl hx ..

/-- A byte of ILLEGAL_SET decodes to its own row, which has no table entry and no operand (R79). -/
theorem decodeBytes_illegal {op : Byte} (hi : op ∈ illegalSet) (b1 b2 : Byte) :
    (decodeBytes op b1 b2).hasTableEntry = false ∧ encode (decodeBytes op b1 b2) = [op] := by
  simp only [illegalSet, List.mem_cons, List.not_mem_nil, or_false] at hi
  rcases hi with rfl | rfl | rfl | rfl | rfl | rfl | rfl | rfl | rfl | rfl | rfl <;> exact ⟨rfl, rfl⟩

/-- A byte of ILLEGAL_SET is one byte long under both STOP_LENGTHs (R70). -/
theorem opcodeLength_illegal (n : StopLength) {op : Byte} (hi : op ∈ illegalSet) : opcodeLength n op = 1 := by
  cases n <;> (revert op; decide)

end Sys2Proof.Proofs.Scope
end
section
/-! PROOF. What a step answers: the one fault exactly when it fetches an illegal byte, else a next state (`00_scope.md` R12, `60_exceptions.md` R240). -/

namespace Sys2Proof.Proofs.Scope

open Sys2Proof Sys2Proof.Machine

/-- The whole fetch of a byte of ILLEGAL_SET is its opcode fetch: no operand follows. -/
theorem afterFetch_illegal (s : State) (n : StopLength) (hi : s.readByte s.pc ∈ illegalSet) :
    s.afterFetch n = s.afterOpcodeFetch := by
  have hpc : s.operandAddr + BitVec.ofNat 16 (opcodeLength n (s.readByte s.pc) - 1) = s.operandAddr := by
    simp [opcodeLength_illegal n hi]
  simp only [State.afterFetch, hpc]
  rfl

/-- An illegal byte faults in the state after the opcode fetch; one of the eleven does so by its own row where the
parameter leaves it out of ILLEGAL_SET (log entry 5). -/
theorem fetchStep_of_illegalByte {p : Params} {s : State} (hi : illegalByte p (s.readByte s.pc)) :
    fetchStep p s = raiseUnimplemented (s.readByte s.pc) s.afterOpcodeFetch := by
  by_cases hp : s.readByte s.pc ∈ p.illegalSet
  · exact fetchStep_of_illegal hp
  · have hd : s.readByte s.pc ∈ illegalSet := hi.resolve_left hp
    obtain ⟨hrow, henc⟩ := decodeBytes_illegal hd (s.readByte s.operandAddr) (s.readByte (s.operandAddr + 1))
    obtain ⟨op, hop, hexec⟩ := execWith_illegal p (i := s.fetchedInstr) hrow (s.afterFetch p.stopLength)
    have hbyte : s.readByte s.pc = op := List.singleton_inj.mp (henc.symm.trans hop)
    have hfault : execWith p s.fetchedInstr (s.afterFetch p.stopLength) =
        raiseUnimplemented (s.readByte s.pc) s.afterOpcodeFetch := by
      rw [hexec, hbyte, afterFetch_illegal s _ hd]
    exact fetchStep_of_fault hp hfault

/-- Any other byte runs: the fetch step answers a next state. -/
theorem fetchStep_next_of_legal {p : Params} {s : State} (hl : ¬illegalByte p (s.readByte s.pc)) :
    ∃ t, fetchStep p s = .next t := by
  obtain ⟨hp, hd⟩ := not_or.mp hl
  obtain ⟨u, hu⟩ := execWith_next p s.fetchedInstr (hasTableEntry_decodeBytes hd _ _) (s.afterFetch p.stopLength)
  exact ⟨_, fetchStep_of_next hp hu⟩

/-- A step that does not fetch answers a next state: it is a tick or a mid-instruction step (R102). -/
theorem stepWith_next_of_not_fetches {p : Params} {s : State} (hf : ¬s.fetches p) : ∃ t, stepWith p s = .next t := by
  cases hs : s.stopped with
  | true => exact ⟨_, stepWith_stopped p hs⟩
  | false =>
    by_cases hw : s.halted = true → s.pending p ≠ 0
    · have hr : 0 < s.remaining := Nat.pos_of_ne_zero fun h0 => hf ⟨hs, hw, h0⟩
      exact ⟨_, stepWith_mid_awake p hs hw hr⟩
    · obtain ⟨hh, hp⟩ := Classical.not_imp.mp hw
      exact ⟨_, stepWith_halted p hs hh (not_not.mp hp)⟩

/-- Settles O39: a fetching step is the fetch step from the state the wake leaves, where an illegal byte faults in the
state after the opcode fetch and every other byte runs; a step that does not fetch goes on. -/
theorem stepAnswersNextOrTheOneFault : Obligations.StepAnswersNextOrTheOneFault := by
  intro p s
  constructor
  · rintro ⟨⟨hs, hw, hr⟩, hi⟩
    have hstep : stepWith p s = raiseUnimplemented (s.readByte s.pc) s.awake.afterOpcodeFetch :=
      (stepWith_fetch p hs hw hr).trans (fetchStep_of_illegalByte (s := s.awake) hi)
    have hregs : regsSame [] s s.awake.afterOpcodeFetch := fun r _ => State.getReg_afterOpcodeFetch s.awake r
    exact ⟨_, hstep, rfl, rfl, hr, rfl, rfl, rfl, rfl, rfl, rfl, hregs, rfl⟩
  · intro hn
    by_cases hf : s.fetches p
    · have hl : ¬illegalByte p (s.awake.readByte s.awake.pc) := fun hi => hn ⟨hf, hi⟩
      obtain ⟨hs, hw, hr⟩ := hf
      rw [stepWith_fetch p hs hw hr]
      exact fetchStep_next_of_legal hl
    · exact stepWith_next_of_not_fetches hf

end Sys2Proof.Proofs.Scope
end
section
/-! SUPPORT. The opcode byte of every row: what each family encodes to, and that the decoder reads a byte to a row of that byte, never to `prefixCb` (`30_encoding.md` R70 to R82). -/

namespace Sys2Proof.Proofs.Rows

open Sys2Proof Sys2Proof.Machine

/-! ## A family's rows in the opcode table -/

@[simp] theorem encode_loadInstr (d src : Operand8) :
    encode (loadInstr d src) = [BitVec.ofNat 8 (0x40 + 8 * operandCode d + operandCode src)] := by
  rcases d with ⟨⟨⟩⟩ | _ <;> rcases src with ⟨⟨⟩⟩ | _ <;> rfl

@[simp] theorem encode_loadImmInstr (d : Operand8) (n : Byte) :
    encode (loadImmInstr d n) = [BitVec.ofNat 8 (0x06 + 8 * operandCode d), n] := by
  rcases d with ⟨⟨⟩⟩ | _ <;> rfl

@[simp] theorem encode_aluInstr (o : AluOp) (src : Operand8) :
    encode (aluInstr o src) = [BitVec.ofNat 8 (0x80 + 8 * aluCode o + operandCode src)] := by
  cases o <;> rcases src with ⟨⟨⟩⟩ | _ <;> rfl

@[simp] theorem encode_aluImmInstr (o : AluOp) (n : Byte) :
    encode (aluImmInstr o n) = [BitVec.ofNat 8 (0xC6 + 8 * aluCode o), n] := by
  cases o <;> rfl

@[simp] theorem encode_incInstr (d : Operand8) :
    encode (incInstr d) = [BitVec.ofNat 8 (0x04 + 8 * operandCode d)] := by
  rcases d with ⟨⟨⟩⟩ | _ <;> rfl

@[simp] theorem encode_decInstr (d : Operand8) :
    encode (decInstr d) = [BitVec.ofNat 8 (0x05 + 8 * operandCode d)] := by
  rcases d with ⟨⟨⟩⟩ | _ <;> rfl

@[simp] theorem encode_rotInstr (o : RotOp) (d : Operand8) :
    encode (rotInstr o d) = [0xCB, BitVec.ofNat 8 (8 * rotCode o + operandCode d)] := by
  cases o <;> rcases d with ⟨⟨⟩⟩ | _ <;> rfl

@[simp] theorem encode_bitInstr (b : Fin 8) (d : Operand8) :
    encode (bitInstr b d) = [0xCB, BitVec.ofNat 8 (0x40 + 8 * b.val + operandCode d)] := by
  fin_cases b <;> rcases d with ⟨⟨⟩⟩ | _ <;> rfl

@[simp] theorem encode_resInstr (b : Fin 8) (d : Operand8) :
    encode (resInstr b d) = [0xCB, BitVec.ofNat 8 (0x80 + 8 * b.val + operandCode d)] := by
  fin_cases b <;> rcases d with ⟨⟨⟩⟩ | _ <;> rfl

@[simp] theorem encode_setInstr (b : Fin 8) (d : Operand8) :
    encode (setInstr b d) = [0xCB, BitVec.ofNat 8 (0xC0 + 8 * b.val + operandCode d)] := by
  fin_cases b <;> rcases d with ⟨⟨⟩⟩ | _ <;> rfl

@[simp] theorem encode_loadPairInstr (rp : Pair) (n : Word) :
    encode (loadPairInstr rp n) = [BitVec.ofNat 8 (0x01 + 16 * pairCode rp), lowByte n, highByte n] := by
  cases rp <;> rfl

@[simp] theorem encode_addHLInstr (rp : Pair) :
    encode (addHLInstr rp) = [BitVec.ofNat 8 (0x09 + 16 * pairCode rp)] := by cases rp <;> rfl

@[simp] theorem encode_incPairInstr (rp : Pair) :
    encode (incPairInstr rp) = [BitVec.ofNat 8 (0x03 + 16 * pairCode rp)] := by cases rp <;> rfl

@[simp] theorem encode_decPairInstr (rp : Pair) :
    encode (decPairInstr rp) = [BitVec.ofNat 8 (0x0B + 16 * pairCode rp)] := by cases rp <;> rfl

@[simp] theorem encode_pushInstr (q : StackPair) :
    encode (pushInstr q) = [BitVec.ofNat 8 (0xC5 + 16 * stackPairCode q)] := by cases q <;> rfl

@[simp] theorem encode_popInstr (q : StackPair) :
    encode (popInstr q) = [BitVec.ofNat 8 (0xC1 + 16 * stackPairCode q)] := by cases q <;> rfl

@[simp] theorem encode_jumpCondInstr (cc : Cond) (n : Word) :
    encode (jumpCondInstr cc n) = [BitVec.ofNat 8 (0xC2 + 8 * condCode cc), lowByte n, highByte n] := by
  cases cc <;> rfl

@[simp] theorem encode_jumpRelCondInstr (cc : Cond) (e : Byte) :
    encode (jumpRelCondInstr cc e) = [BitVec.ofNat 8 (0x20 + 8 * condCode cc), e] := by cases cc <;> rfl

@[simp] theorem encode_callCondInstr (cc : Cond) (n : Word) :
    encode (callCondInstr cc n) = [BitVec.ofNat 8 (0xC4 + 8 * condCode cc), lowByte n, highByte n] := by
  cases cc <;> rfl

@[simp] theorem encode_retCondInstr (cc : Cond) :
    encode (retCondInstr cc) = [BitVec.ofNat 8 (0xC0 + 8 * condCode cc)] := by cases cc <;> rfl

@[simp] theorem encode_rstInstr (y : Fin 8) : encode (rstInstr y) = [BitVec.ofNat 8 (0xC7 + 8 * y.val)] := by
  fin_cases y <;> rfl

/-! ## The decoder's blocks -/

/-- A CB row's second byte is the byte it was decoded from (R80, R81). -/
theorem encode_decodeCb (cb : Byte) : encode (decodeCb cb) = [0xCB, cb] := by
  unfold decodeCb
  split <;> simp only [encode_rotInstr, encode_bitInstr, encode_resInstr, encode_setInstr] <;>
    exact congrArg ([0xCB, ·]) (by revert cb; decide +kernel)

/-- A row of block 0 has the opcode byte it was decoded from (R74). -/
theorem head_encode_decodeBlock0 {op : Byte} (hx : fieldX op = 0) (b1 : Byte) (n : Word) :
    (encode (decodeBlock0 op b1 n)).head? = some op := by
  unfold decodeBlock0
  split
  case h_1 =>
    split
    case h_5 | h_6 | h_7 | h_8 => rw [encode_jumpRelCondInstr]; exact congrArg some (by revert op; decide +kernel)
    all_goals exact congrArg some (by revert op; decide +kernel)
  case h_2 =>
    split <;> simp only [encode_loadPairInstr, encode_addHLInstr] <;>
      exact congrArg some (by revert op; decide +kernel)
  case h_3 => split <;> exact congrArg some (by revert op; decide +kernel)
  case h_4 =>
    split <;> simp only [encode_incPairInstr, encode_decPairInstr] <;>
      exact congrArg some (by revert op; decide +kernel)
  case h_5 | h_6 | h_7 =>
    simp only [encode_incInstr, encode_decInstr, encode_loadImmInstr]
    exact congrArg some (by revert op; decide +kernel)
  case h_8 => split <;> exact congrArg some (by revert op; decide +kernel)

/-- A row of block 3 has the opcode byte it was decoded from (R77, R79, R82). -/
theorem head_encode_decodeBlock3 {op : Byte} (hx : fieldX op = 3) (b1 : Byte) (n : Word) :
    (encode (decodeBlock3 op b1 n)).head? = some op := by
  unfold decodeBlock3
  split
  case h_1 =>
    split
    case h_1 | h_2 | h_3 | h_4 => rw [encode_retCondInstr]; exact congrArg some (by revert op; decide +kernel)
    all_goals exact congrArg some (by revert op; decide +kernel)
  case h_2 =>
    split
    · rw [encode_popInstr]; exact congrArg some (by revert op; decide +kernel)
    · split <;> exact congrArg some (by revert op; decide +kernel)
  case h_3 =>
    split
    case h_1 | h_2 | h_3 | h_4 => rw [encode_jumpCondInstr]; exact congrArg some (by revert op; decide +kernel)
    all_goals exact congrArg some (by revert op; decide +kernel)
  case h_4 =>
    split
    case h_2 => rw [encode_decodeCb]; exact congrArg some (by revert op; decide +kernel)
    all_goals exact congrArg some (by revert op; decide +kernel)
  case h_5 =>
    split
    case h_1 | h_2 | h_3 | h_4 => rw [encode_callCondInstr]; exact congrArg some (by revert op; decide +kernel)
    all_goals exact congrArg some (by revert op; decide +kernel)
  case h_6 =>
    split
    · rw [encode_pushInstr]; exact congrArg some (by revert op; decide +kernel)
    · split <;> exact congrArg some (by revert op; decide +kernel)
  case h_7 | h_8 =>
    simp only [encode_aluImmInstr, encode_rstInstr]
    exact congrArg some (by revert op; decide +kernel)

/-- The decoder reads an opcode byte to a row of that byte, whatever bytes follow it. -/
theorem head_encode_decodeBytes (op b1 b2 : Byte) : (encode (decodeBytes op b1 b2)).head? = some op := by
  unfold decodeBytes
  split
  case h_1 hx => exact head_encode_decodeBlock0 hx ..
  case h_2 | h_3 =>
    simp only [encode_loadInstr, encode_aluInstr]
    exact congrArg some (by revert op; decide +kernel)
  case h_4 hx => exact head_encode_decodeBlock3 hx ..

/-- An instruction whose encoding starts with `b` is decoded from no other opcode byte. -/
theorem opcode_of_decodeBytes {op b1 b2 b : Byte} {i : Instr} (h : decodeBytes op b1 b2 = i)
    (hb : (encode i).head? = some b) : op = b := by
  subst h
  exact Option.some.inj ((head_encode_decodeBytes op b1 b2).symm.trans hb)

/-- A step decodes the byte 0xCB with the byte after it, never to `prefixCb` (`40_execution_cycle.md` R106). -/
theorem selfContained_decodeBytes (op b1 b2 : Byte) : (decodeBytes op b1 b2).selfContained = true := by
  have hne : decodeBytes op b1 b2 ≠ .prefixCb := by
    intro h
    obtain rfl : op = 0xCB := opcode_of_decodeBytes h rfl
    have hcb : encode (decodeCb b1) = encode .prefixCb := congrArg encode h
    rw [encode_decodeCb] at hcb
    exact absurd (congrArg List.length hcb) (by decide : (2 : Nat) ≠ 1)
  unfold Instr.selfContained
  split
  · exact absurd ‹_› hne
  · rfl

end Sys2Proof.Proofs.Rows
end
section
/-! SUPPORT. What an instruction can do to the execution state, the counter, memory and F, and what the phases around it can do to `total`, SP and IME. -/

namespace Sys2Proof.Proofs.Effects

open Sys2Proof Sys2Proof.Machine

/-! ## Instructions -/

/-- A CB row leaves the execution state alone. -/
theorem executeCb_engine (s : State) (cb : Byte) : engineSame s (s.executeCb cb) := by
  rcases executeCb_cases s cb with ⟨_, _, h⟩ | ⟨_, _, h⟩ | ⟨_, _, h⟩ | ⟨_, _, h⟩ <;>
    simp [h, engineSame, State.rotate, State.bitTest, State.bitReset, State.bitSet]

theorem executeCb_sp (s : State) (cb : Byte) : (s.executeCb cb).sp = s.sp := by
  rcases executeCb_cases s cb with ⟨_, _, h⟩ | ⟨_, _, h⟩ | ⟨_, _, h⟩ | ⟨_, _, h⟩ <;>
    simp [h, State.rotate, State.bitTest, State.bitReset, State.bitSet]

theorem wf_executeCb {s : State} (cb : Byte) (hs : s.mem.wf = true) : (s.executeCb cb).mem.wf = true := by
  rcases executeCb_cases s cb with ⟨_, _, h⟩ | ⟨_, _, h⟩ | ⟨_, _, h⟩ | ⟨_, _, h⟩ <;> rw [h]
  · exact State.wf_writeOperand _ _ hs
  · exact hs
  · exact State.wf_writeOperand _ _ hs
  · exact State.wf_writeOperand _ _ hs

theorem flagNibbleZero_executeCb {s : State} (cb : Byte) (hs : s.flagNibbleZero) :
    (s.executeCb cb).flagNibbleZero := by
  rcases executeCb_cases s cb with ⟨_, _, h⟩ | ⟨_, _, h⟩ | ⟨_, _, h⟩ | ⟨_, _, h⟩ <;> rw [h]
  · exact State.pack_low_nibble _
  · exact State.pack_low_nibble _
  · simpa [State.flagNibbleZero, State.bitReset] using hs
  · simpa [State.flagNibbleZero, State.bitSet] using hs

/-- All that an instruction can do to the execution state apart from the counter: only the control instructions and
RETI change it, and each of them one or two fields. -/
theorem engine_of_runs {p : Params} {s t : State} {i : Instr} (h : Runs p s i t) :
    engineSame s t ∨ (i = .reti ∧ t = s.returnFromInterrupt) ∨
    (i = .halt ∧ (t = { s with haltBug := true } ∨ t = { s with halted := true })) ∨
    (∃ pad, i = .stop pad ∧ t = { s with stopped := true }) ∨
    (i = .di ∧ t = { s with ime := false, imePending := false }) ∨ (i = .ei ∧ t = { s with imePending := true }) := by
  cases h with
  | reti => exact .inr (.inl ⟨rfl, rfl⟩)
  | armHaltBug => exact .inr (.inr (.inl ⟨rfl, .inl rfl⟩))
  | halt => exact .inr (.inr (.inl ⟨rfl, .inr rfl⟩))
  | stop pad => exact .inr (.inr (.inr (.inl ⟨pad, rfl, rfl⟩)))
  | di => exact .inr (.inr (.inr (.inr (.inl ⟨rfl, rfl⟩))))
  | ei => exact .inr (.inr (.inr (.inr (.inr ⟨rfl, rfl⟩))))
  | alu o | aluImm o => cases o <;> exact .inl (by simp [engineSame, State.accumulate])
  | prefixCb => exact .inl (executeCb_engine { s with pc := s.pc + 1 } _)
  | _ => exact .inl (by simp [engineSame, State.rotate, State.bitTest, State.bitReset, State.bitSet])

/-- No instruction counts `total`. -/
theorem total_of_runs {p : Params} {s t : State} {i : Instr} (h : Runs p s i t) : t.total = s.total := by
  rcases engine_of_runs h with ⟨-, -, ht, -⟩ | ⟨-, rfl⟩ | ⟨-, rfl | rfl⟩ | ⟨_, -, rfl⟩ | ⟨-, rfl⟩ | ⟨-, rfl⟩
  · exact ht
  all_goals simp [State.returnFromInterrupt]

/-- Only RETI sets IME. -/
theorem ime_of_runs {p : Params} {s t : State} {i : Instr} (h : Runs p s i t) (ht : t.ime = true) :
    s.ime = true ∨ i = .reti := by
  rcases engine_of_runs h with ⟨-, -, -, -, -, -, he, -⟩ | ⟨hi, -⟩ | ⟨-, rfl | rfl⟩ | ⟨_, -, rfl⟩ | ⟨-, rfl⟩ |
    ⟨-, rfl⟩
  · exact .inl (he ▸ ht)
  · exact .inr hi
  · exact .inl ht
  · exact .inl ht
  · exact .inl ht
  · exact absurd ht Bool.false_ne_true
  · exact .inl ht

/-- An instruction adds at most the extra of its taken condition to the counter; `prefixCb`, which no step decodes,
adds a CB cost instead (log entry 12). -/
theorem remaining_of_runs {p : Params} {s t : State} {i : Instr} (h : Runs p s i t) (hi : i.selfContained = true) :
    t.remaining ≤ s.remaining + takenExtra i := by
  cases h with
  | jumpTaken cc n => cases cc <;> exact Nat.le_refl _
  | relativeTaken cc e => cases cc <;> exact Nat.le_refl _
  | callTaken cc n => rw [State.addCycles_remaining, State.call_remaining]; cases cc <;> exact Nat.le_refl _
  | returnTaken cc => cases cc <;> exact Nat.le_refl _
  | prefixCb => exact absurd hi Bool.false_ne_true
  | alu o | aluImm o => cases o <;> exact Nat.le_add_right ..
  | _ => simp [State.rotate, State.bitTest, State.bitReset, State.bitSet, State.returnFromInterrupt]

/-- Every instruction keeps memory canonical. -/
theorem memoryCanonical_of_runs {p : Params} {s t : State} {i : Instr} (h : Runs p s i t) (hs : s.memoryCanonical) :
    t.memoryCanonical := by
  unfold State.memoryCanonical at *
  cases h with
  | load | loadImm | inc | dec | rot | res | set => exact State.wf_writeOperand _ _ hs
  | alu o | aluImm o => cases o <;> simpa [State.accumulate] using hs
  | push => exact State.wf_push16 _ hs
  | callTaken _ n | call n => exact State.wf_call n hs
  | rst y => exact State.wf_call _ hs
  | storeA | storeStepping => exact State.wf_writeByte _ _ hs
  | storeSP => exact State.wf_writeByte _ _ (State.wf_writeByte _ _ hs)
  | prefixCb => exact wf_executeCb (s := { s with pc := s.pc + 1 }) _ hs
  | _ => simpa [State.bitTest, State.returnFromInterrupt] using hs

/-- Every instruction keeps bits 3:0 of F zero: it writes F from four flags, or from a popped byte with its low
nibble cleared, or not at all. -/
theorem flagNibbleZero_of_runs {p : Params} {s t : State} {i : Instr} (h : Runs p s i t) (hs : s.flagNibbleZero) :
    t.flagNibbleZero := by
  unfold State.flagNibbleZero at *
  cases h with
  | alu o | aluImm o => cases o <;> exact State.pack_low_nibble _
  | inc | dec | rot | bit | addHL | rotateA | daa | cpl | scf | ccf | spPlus => exact State.pack_low_nibble _
  | pop q =>
    cases q with
    | af => exact (BitVec.and_assoc ..).trans BitVec.and_zero
    | _ => exact hs
  | prefixCb => exact flagNibbleZero_executeCb (s := { s with pc := s.pc + 1 }) _ hs
  | _ => simpa [State.bitReset, State.bitSet, State.returnFromInterrupt] using hs

/-! ## The phases around an instruction -/

@[simp] theorem interruptCheck_total (s : State) (p : Params) : (s.interruptCheck p).total = s.total := by
  rcases State.interruptCheck_cases s p with ⟨he, -⟩ | ⟨i, -, -, he⟩ <;> simp [he]

@[simp] theorem interruptCheck_imePending (s : State) (p : Params) :
    (s.interruptCheck p).imePending = s.imePending := by
  rcases State.interruptCheck_cases s p with ⟨he, -⟩ | ⟨i, -, -, he⟩ <;> simp [he]

/-- The check never sets IME. -/
theorem ime_of_interruptCheck {s : State} {p : Params} (h : (s.interruptCheck p).ime = true) : s.ime = true := by
  rcases State.interruptCheck_cases s p with ⟨he, -⟩ | ⟨i, hi, -, -⟩
  · exact he ▸ h
  · exact hi

/-- The check leaves SP, or enters an interrupt: SP two lower and IME clear. -/
theorem interruptCheck_sp (s : State) (p : Params) :
    (s.interruptCheck p).sp = s.sp ∨
      (s.interruptCheck p).sp = s.sp - 2 ∧ (s.interruptCheck p).ime = false := by
  rcases State.interruptCheck_cases s p with ⟨he, -⟩ | ⟨i, -, -, he⟩ <;> simp [he]

/-- `ApplyIME` sets IME only by taking the pending enable. -/
theorem ime_of_applyIme {s : State} {mode : EiDelayMode} {p0 : Bool} {kind : StepKind}
    (h : (s.applyIme mode p0 kind).ime = true) :
    s.ime = true ∨ p0 = true ∧ (s.applyIme mode p0 kind).imePending = false := by
  rcases State.applyIme_cases s mode p0 kind with he | ⟨hp, -, -, he⟩
  · exact .inl (he ▸ h)
  · exact .inr ⟨hp, he ▸ rfl⟩

/-! ## The mid-instruction step, in both orders -/

theorem midStep_total (s : State) (p : Params) : (s.midStep p).total = s.total + 1 := by
  cases h : p.midOrder with
  | timerFirst => simp [State.midStep_timerFirst s h]
  | timerLast => simp [State.midStep_timerLast s h]

theorem midStep_sp (s : State) (p : Params) :
    (s.midStep p).sp = s.sp ∨ (s.midStep p).sp = s.sp - 2 ∧ (s.midStep p).ime = false := by
  cases h : p.midOrder with
  | timerFirst =>
    rw [State.midStep_timerFirst s h]
    have h := interruptCheck_sp (({ s with remaining := s.remaining - 1 }.timerTick p).applyIme p.eiDelay
      s.imePending .mid) p
    rwa [State.applyIme_sp, State.timerTick_sp] at h
  | timerLast =>
    rw [State.midStep_timerLast s h]
    have h := interruptCheck_sp ({ s with remaining := s.remaining - 1 }.applyIme p.eiDelay s.imePending .mid) p
    rw [State.applyIme_sp] at h
    rwa [State.timerTick_sp, State.timerTick_ime]

theorem ime_of_midStep {s : State} {p : Params} (ht : (s.midStep p).ime = true) :
    s.ime = true ∨ s.imePending = true ∧ (s.midStep p).imePending = false := by
  cases h : p.midOrder with
  | timerFirst =>
    rw [State.midStep_timerFirst s h] at ht ⊢
    simpa using ime_of_applyIme (ime_of_interruptCheck ht)
  | timerLast =>
    rw [State.midStep_timerLast s h] at ht ⊢
    simpa using ime_of_applyIme (ime_of_interruptCheck (by simpa using ht))

/-! ## The phases after a fetched instruction -/

theorem finishFetch_total (s : State) (p : Params) (p0 : Bool) (i : Instr) :
    (s.finishFetch p p0 i).total = s.total + 1 := by
  simp [State.finishFetch]

theorem ime_of_finishFetch {s : State} {p : Params} {p0 : Bool} {i : Instr}
    (ht : (s.finishFetch p p0 i).ime = true) :
    s.ime = true ∨ p0 = true ∧ (s.finishFetch p p0 i).imePending = false := by
  rw [State.finishFetch, State.timerTick_ime] at ht
  simpa [State.finishFetch] using ime_of_applyIme (ime_of_interruptCheck ht)

end Sys2Proof.Proofs.Effects
end
section
/-! PROOF. The machine's invariant: every phase keeps it, an instruction's effects with its cost keep it, hence every step and every host action (`40_execution_cycle.md` R102, R107, R114). -/

namespace Sys2Proof.Proofs.Invariant

open Sys2Proof Sys2Proof.Machine Sys2Proof.Proofs.Effects Sys2Proof.Proofs.Rows

variable {p : Params} {n : Nat} {s : State}

/-! ## The phases -/

theorem inv_timerTick (p : Params) (h : s.Inv n) : (s.timerTick p).Inv n where
  memory := State.wf_timerTick p h.memory
  flags := by simpa [State.flagNibbleZero] using h.flags
  phases := by simpa [State.phasesExclusive] using h.phases
  cycles := by simpa [State.cyclesBounded] using h.cycles

/-- The pending enable turns into IME: the entry it could add is counted once before and once after. -/
theorem inv_applyIme (mode : EiDelayMode) (p0 : Bool) (kind : StepKind) (h : s.Inv n) :
    (s.applyIme mode p0 kind).Inv n := by
  rcases State.applyIme_cases s mode p0 kind with he | ⟨-, hp, -, he⟩ <;> rw [he]
  · exact h
  · have hc : s.cyclesBounded n := h.cycles
    refine ⟨h.memory, h.flags, h.phases, ?_⟩
    simp only [State.cyclesBounded, hp, Bool.toNat_true, Bool.toNat_false] at hc ⊢
    omega

/-- An entry adds the latency that IME counted for it. -/
theorem inv_interruptCheck (p : Params) (h : s.Inv n) : (s.interruptCheck p).Inv n := by
  rcases State.interruptCheck_cases s p with ⟨he, -⟩ | ⟨i, hi, -, he⟩ <;> rw [he]
  · exact h
  · have hc : s.cyclesBounded n := h.cycles
    have hph : s.phasesExclusive := h.phases
    refine ⟨State.wf_enterInterrupt p i h.memory, by simpa [State.flagNibbleZero] using h.flags, ?_, ?_⟩
    · simp only [State.phasesExclusive, State.enterInterrupt_halted, State.enterInterrupt_haltBug,
        State.enterInterrupt_stopped, Bool.and_eq_true] at hph ⊢
      tauto
    · simp only [State.cyclesBounded, hi, State.enterInterrupt_remaining, State.enterInterrupt_ime,
        State.enterInterrupt_imePending, Bool.toNat_true, Bool.toNat_false] at hc ⊢
      omega

theorem inv_awake (h : s.Inv n) : s.awake.Inv n :=
  ⟨h.memory, h.flags, by simp [State.phasesExclusive, State.awake], h.cycles⟩

theorem inv_midStep (p : Params) (h : s.Inv n) : (s.midStep p).Inv n := by
  have hc : s.cyclesBounded n := h.cycles
  have hcounted : ({ s with remaining := s.remaining - 1 } : State).Inv n := by
    refine ⟨h.memory, h.flags, h.phases, ?_⟩
    simp only [State.cyclesBounded] at hc ⊢
    omega
  cases ho : p.midOrder with
  | timerFirst =>
    rw [State.midStep_timerFirst s ho]
    exact inv_interruptCheck p (inv_applyIme _ _ _ (inv_timerTick p hcounted))
  | timerLast =>
    rw [State.midStep_timerLast s ho]
    exact inv_timerTick p (inv_interruptCheck p (inv_applyIme _ _ _ hcounted))

/-! ## The fetch step -/

/-- From a running core without the HALT bug, an instruction sets at most one of Stopped, Halted and the HALT bug. -/
theorem phasesExclusive_of_runs {t : State} {i : Instr} (h : Runs p s i t) (hs : s.stopped = false)
    (hh : s.halted = false) (hb : s.haltBug = false) : t.phasesExclusive := by
  rcases engine_of_runs h with ⟨-, -, -, hs', hh', hb', -⟩ | ⟨-, rfl⟩ | ⟨-, rfl | rfl⟩ | ⟨_, -, rfl⟩ | ⟨-, rfl⟩ |
    ⟨-, rfl⟩ <;>
    simp [State.phasesExclusive, State.returnFromInterrupt, *]

/-- The instruction of a fetch step that goes on is well-formed, so that its cost is bounded. -/
theorem wellFormed_fetchedInstr {t : State} (h : fetchStep p s = .next t) : s.fetchedInstr.wellFormed = true := by
  have hlegal : s.readByte s.pc ∉ illegalSet := by
    intro hi
    rw [Scope.fetchStep_of_illegalByte (.inr hi)] at h
    cases h
  exact Bool.and_eq_true_iff.mpr ⟨selfContained_decodeBytes .., Scope.hasTableEntry_decodeBytes hlegal ..⟩

/-- A fetch step starts with no cycles in flight, so before its check it leaves at most one instruction's cost less one,
beside what IME and the pending enable count. -/
theorem inv_fetchStep {t : State} (hcost : costsWithin p n) (h : s.Inv n) (hs : s.stopped = false)
    (hh : s.halted = false) (hr : s.remaining = 0) (ht : fetchStep p s = .next t) : t.Inv n := by
  obtain ⟨-, u, hu, rfl⟩ := fetchStep_next ht
  have hwf := wellFormed_fetchedInstr ht
  have hrun := runs_of_execWith hu
  obtain ⟨hpos, hmax⟩ := hcost _ hwf
  have hrem := remaining_of_runs hrun (selfContained_decodeBytes ..)
  rw [State.afterFetch_remaining, hr] at hrem
  have hcharged : (u.chargeCost p s.fetchedInstr).Inv n := by
    have hmem : u.memoryCanonical := memoryCanonical_of_runs hrun h.memory
    have hflags : u.flagNibbleZero := flagNibbleZero_of_runs hrun h.flags
    have hphases : u.phasesExclusive := phasesExclusive_of_runs hrun hs hh rfl
    refine ⟨hmem, hflags, hphases, ?_⟩
    have := Bool.toNat_le u.ime
    have := Bool.toNat_le u.imePending
    simp only [State.cyclesBounded, State.chargeCost_remaining, State.chargeCost_ime, State.chargeCost_imePending,
      interruptLatency]
    omega
  exact inv_timerTick p (inv_interruptCheck p (inv_applyIme _ _ _ hcharged))

/-! ## Steps and host actions -/

/-- Every step that goes on keeps the invariant. -/
theorem inv_stepWith {t : State} (hcost : costsWithin p n) (h : s.Inv n) (ht : stepWith p s = .next t) : t.Inv n := by
  rcases stepWith_next ht with ⟨-, rfl⟩ | ⟨-, -, -, rfl⟩ | ⟨-, -, -, rfl⟩ | ⟨hs, -, hr, hf⟩
  · exact inv_timerTick p h
  · exact inv_timerTick p h
  · exact inv_midStep p (inv_awake h)
  · exact inv_fetchStep hcost (inv_awake h) hs rfl hr hf

theorem inv_powerOn (r : ResetRegs) {m : Memory} (hm : m.wf = true) : (State.powerOn r m).Inv n where
  memory := hm
  flags := (BitVec.and_assoc ..).trans BitVec.and_zero
  phases := by simp [State.phasesExclusive, State.powerOn]
  cycles := by simp [State.cyclesBounded, State.powerOn]

/-- Every host action keeps the invariant. -/
theorem inv_act (p : Params) (act : HostAction) (h : s.Inv n) : (s.act p act).Inv n := by
  have hph : s.phasesExclusive := h.phases
  cases act with
  | resumeFromStop =>
    have hresumed : s.resumeFromStop.phasesExclusive :=
      ⟨hph.1, fun h => Bool.false_ne_true h.2⟩
    exact ⟨h.memory, h.flags, hresumed, h.cycles⟩
  | reset => exact inv_powerOn p.resetRegs h.memory
  | writeMem x v => exact ⟨State.wf_writeByte x v h.memory, h.flags, h.phases, h.cycles⟩

/-- Settles O55: a step is a tick, a mid-instruction step or a fetch step, and each keeps the invariant. -/
theorem everyStepKeepsInvariant : Obligations.EveryStepKeepsInvariant :=
  ⟨fun _ _ _ _ hcost h ht => inv_stepWith hcost h ht, fun p _ _ act h => inv_act p act h⟩

end Sys2Proof.Proofs.Invariant
end
section
/-! PROOF. What changes IME, SP and F, what a condition tests, and what reset gives the registers (`10_state.md` R24, R25, R30, R37, R42). -/

namespace Sys2Proof.Proofs.Registers

open Sys2Proof Sys2Proof.Machine Sys2Proof.Proofs.Effects Sys2Proof.Proofs.Rows

/-! ## IME -/

/-- Settles O59: a tick leaves IME, a mid-instruction step raises it from the pending enable only, and a fetch step from
the enable or by its instruction, which is then RETI. -/
theorem imeRisesOnlyByRetiOrPendingEnable : Obligations.ImeRisesOnlyByRetiOrPendingEnable := by
  intro p s t ht hs himet
  rcases stepWith_next ht with ⟨-, rfl⟩ | ⟨-, -, -, rfl⟩ | ⟨-, -, -, rfl⟩ | ⟨hstop, hwake, hr, hf⟩
  · simp [hs] at himet
  · simp [hs] at himet
  · rcases ime_of_midStep himet with h | h
    · simp [State.awake, hs] at h
    · exact .inl h
  · obtain ⟨-, u, hu, rfl⟩ := fetchStep_next hf
    rcases ime_of_finishFetch himet with h | h
    · rcases ime_of_runs (runs_of_execWith hu) h with h | h
      · simp [State.awake, hs] at h
      · exact .inr ⟨⟨hstop, hwake, hr⟩, opcode_of_decodeBytes h rfl⟩
    · exact .inl h

/-! ## SP -/

/-- SP plus a signed displacement on exact numbers (`44_alu16.md` R183). -/
theorem spPlusE8_toNat (sp : Word) (e : Byte) : (spPlusE8 sp e).value.toNat =
    (sp.toNat + e.toNat + (if e.toNat < 128 then 0 else 65280)) % 65536 := by
  rw [spPlusE8, BitVec.toNat_add, sext16_toNat, Nat.add_assoc]

theorem sub_one_toNat (x : Word) : (x - 1).toNat = (x.toNat + 65535) % 65536 := by bv_omega

theorem sub_two_toNat (x : Word) : (x - 2).toNat = (x.toNat + 65534) % 65536 := by bv_omega

/-- Settles O58: of the shapes an instruction runs in, those that change SP are the listed ones; a step that does not
fetch changes it only by entering an interrupt. -/
theorem spChangesOnlyByStackInstructions : Obligations.SPChangesOnlyByStackInstructions := by
  constructor
  · intro i s t h hne
    cases runs_of_exec h with
    | push q => exact .inl ⟨.inl ⟨q, rfl⟩, sub_two_toNat _⟩
    | call n => exact .inl ⟨.inr (.inl ⟨n, rfl⟩), sub_two_toNat _⟩
    | callTaken cc n => exact .inl ⟨.inr (.inr (.inl ⟨cc, n, rfl⟩)), sub_two_toNat _⟩
    | rst y => exact .inl ⟨.inr (.inr (.inr ⟨y, rfl⟩)), sub_two_toNat _⟩
    | pop q =>
      rw [State.setStackPair_sp, State.dropTop_sp]
      exact .inr (.inl ⟨.inl ⟨q, rfl⟩, BitVec.toNat_add ..⟩)
    | ret => exact .inr (.inl ⟨.inr (.inl rfl), BitVec.toNat_add ..⟩)
    | returnTaken cc => exact .inr (.inl ⟨.inr (.inr (.inl ⟨cc, rfl⟩)), BitVec.toNat_add ..⟩)
    | reti => exact .inr (.inl ⟨.inr (.inr (.inr rfl)), BitVec.toNat_add ..⟩)
    | loadPair rp n =>
      cases rp with
      | sp => exact .inr (.inr (.inl ⟨n, rfl, rfl⟩))
      | _ => exact absurd rfl hne
    | loadSP => exact .inr (.inr (.inr (.inl ⟨rfl, rfl⟩)))
    | spPlus i rp e hi =>
      rcases hi with ⟨rfl, rfl⟩ | ⟨rfl, rfl⟩
      · exact .inr (.inr (.inr (.inr (.inl ⟨e, rfl, spPlusE8_toNat ..⟩))))
      · exact absurd rfl hne
    | incPair rp =>
      cases rp with
      | sp => exact .inr (.inr (.inr (.inr (.inr (.inl ⟨rfl, BitVec.toNat_add ..⟩)))))
      | _ => exact absurd rfl hne
    | decPair rp =>
      cases rp with
      | sp => exact .inr (.inr (.inr (.inr (.inr (.inr ⟨rfl, sub_one_toNat _⟩)))))
      | _ => exact absurd rfl hne
    | alu o | aluImm o => cases o <;> exact absurd rfl hne
    | prefixCb => exact absurd (executeCb_sp { s with pc := s.pc + 1 } _) hne
    | _ => exact absurd (by simp [State.rotate, State.bitTest, State.bitReset, State.bitSet]) hne
  · intro p s t hf ht hne
    rcases stepWith_next ht with ⟨-, rfl⟩ | ⟨-, -, -, rfl⟩ | ⟨-, -, -, rfl⟩ | ⟨hs, hw, hr, -⟩
    · simp at hne
    · simp at hne
    · exact (midStep_sp s.awake p).resolve_left hne
    · exact absurd ⟨hs, hw, hr⟩ hf

/-! ## F -/

/-- Settles O60: of the shapes an instruction runs in, all but the listed ones leave F. -/
theorem nonFlagInstructionsKeepF : Obligations.NonFlagInstructionsKeepF := by
  intro i s t h hne
  cases runs_of_exec h with
  | alu o src => exact .inl ⟨o, src, rfl⟩
  | aluImm o n => exact .inr (.inl ⟨o, n, rfl⟩)
  | inc d => exact .inr (.inr (.inl ⟨d, rfl⟩))
  | dec d => exact .inr (.inr (.inr (.inl ⟨d, rfl⟩)))
  | daa | cpl | scf | ccf | prefixCb => simp only [true_or, or_true]
  | rotateA i o hi =>
    simp only [List.mem_cons, List.not_mem_nil, or_false] at hi
    tauto
  | rot o d =>
    have hi : ∃ o' d', rotInstr o d = rotInstr o' d' := ⟨o, d, rfl⟩
    simp only [hi, true_or, or_true]
  | bit b d =>
    have hi : ∃ b' d', bitInstr b d = bitInstr b' d' := ⟨b, d, rfl⟩
    simp only [hi, true_or, or_true]
  | addHL rp =>
    have hi : ∃ rp', addHLInstr rp = addHLInstr rp' := ⟨rp, rfl⟩
    simp only [hi, true_or, or_true]
  | spPlus i rp e hi =>
    have hi : (∃ e, i = .addSPE8 e) ∨ ∃ e, i = .ldHLSPE8 e := hi.imp (fun h => ⟨e, h.1⟩) fun h => ⟨e, h.1⟩
    tauto
  | pop q =>
    cases q with
    | af => simp only [popInstr, or_true]
    | _ => exact absurd rfl hne
  | _ => exact absurd (by simp [flagsSame, State.readF, State.bitReset, State.bitSet, State.returnFromInterrupt]) hne

/-! ## Conditions -/

/-- The target of a relative jump on exact numbers (`46_control.md` R204). -/
theorem relativeTarget_eq_ofNat (s : State) (e : Byte) : s.relativeTarget e =
    BitVec.ofNat 16 (s.pc.toNat + e.toNat + (if e.toNat < 128 then 0 else 65280)) := by
  apply BitVec.eq_of_toNat_eq
  rw [State.relativeTarget, BitVec.toNat_add, sext16_toNat, BitVec.toNat_ofNat, Nat.add_assoc]

/-- A conditional jump jumps, at 4 extra cycles, when its condition holds, and does nothing otherwise (R202, R205). -/
theorem jumpIf_spec (cc : Cond) (target : Word) (s : State) : ∃ t, jumpIf cc target s = .next t ∧
    (s.cond cc = true → jumpsTo target 4 s t) ∧ (¬s.cond cc = true → t = s) := by
  unfold jumpIf
  split
  · next hc => exact ⟨_, rfl, fun _ => jumpsTo_jump s target 4, fun hn => absurd hc hn⟩
  · next hc => exact ⟨_, rfl, fun h => absurd h hc, fun _ => rfl⟩

/-- Settles O27: the named flag test is `State.cond`, and both jumps are `jumpIf` on it. -/
theorem conditionalJumpsTestOneFlag : Obligations.ConditionalJumpsTestOneFlag := by
  intro cc n e s holds
  have hcond : holds ↔ s.cond cc = true := by cases cc <;> simp [holds, State.cond]
  have hcost : costOf engineParams (jumpCondInstr cc n) = 12 ∧ costOf engineParams (jumpRelCondInstr cc e) = 8 := by
    cases cc <;> exact ⟨rfl, rfl⟩
  rw [hcond, exec_jumpCondInstr, exec_jumpRelCondInstr, ← relativeTarget_eq_ofNat]
  obtain ⟨t, ht, htaken, hnot⟩ := jumpIf_spec cc (s.relativeTarget e) s
  exact ⟨⟨⟨encode_jumpCondInstr .., hcost.1⟩, jumpIf_spec cc n s⟩,
    ⟨encode_jumpRelCondInstr .., hcost.2⟩, t, ht, hnot, htaken⟩

/-! ## Reset -/

/-- Settles O57: reset and power-on are `State.powerOn` at RESET_REGS; reset keeps memory, and power-on lists MEM0. -/
theorem resetSetsDocumentedValues : Obligations.ResetSetsDocumentedValues := by
  refine ⟨?_, fun p s x => ⟨rfl, State.readByte_launch p x⟩, rfl, State.launch_engineParams.symm⟩
  rintro p s t (rfl | rfl) <;> and_intros <;> rfl

end Sys2Proof.Proofs.Registers
end
section
/-! PROOF. What no step observes: the opcode latch with its address, and `total` beyond its residue modulo 1024 (`10_state.md` R31, R33). -/

namespace Sys2Proof.Proofs.Unobserved

open Sys2Proof Sys2Proof.Machine Sys2Proof.Proofs.Effects

/-- `s` with the opcode latch and its address rewritten and `total` higher by `k`: the three fields that no instruction
and no interrupt reads. -/
def skew (op : Byte → Byte) (addr : Word → Word) (k : Nat) (s : State) : State :=
  { s with opcode := op s.opcode, opcodeAddr := addr s.opcodeAddr, total := s.total + k }

section Operations

variable (op : Byte → Byte) (addr : Word → Word) (k : Nat) (s : State)

/-! ## The named operations read none of the three fields, and pass them on -/

@[simp] theorem readOperand_skew (d : Operand8) : (skew op addr k s).readOperand d = s.readOperand d := by
  cases d with
  | reg r => cases r <;> rfl
  | memHL => rfl

@[simp] theorem writeOperand_skew (d : Operand8) (v : Byte) :
    (skew op addr k s).writeOperand d v = skew op addr k (s.writeOperand d v) := by
  cases d with
  | reg r => cases r <;> rfl
  | memHL => rfl

@[simp] theorem flagC_skew : (skew op addr k s).flagC = s.flagC := rfl

@[simp] theorem setFlags_skew (fl : FlagBits) : (skew op addr k s).setFlags fl = skew op addr k (s.setFlags fl) := rfl

@[simp] theorem setFlag_skew (f : Flag) (v : Bool) :
    (skew op addr k s).setFlag f v = skew op addr k (s.setFlag f v) := by cases f <;> rfl

@[simp] theorem accumulate_skew (o : AluOp) (src : Byte) :
    (skew op addr k s).accumulate o src = skew op addr k (s.accumulate o src) := by cases o <;> rfl

@[simp] theorem rotate_skew (o : RotOp) (d : Operand8) :
    (skew op addr k s).rotate o d = skew op addr k (s.rotate o d) := by simp [State.rotate]

@[simp] theorem bitTest_skew (b : Fin 8) (d : Operand8) :
    (skew op addr k s).bitTest b d = skew op addr k (s.bitTest b d) := by simp [State.bitTest]

@[simp] theorem bitReset_skew (b : Fin 8) (d : Operand8) :
    (skew op addr k s).bitReset b d = skew op addr k (s.bitReset b d) := by simp [State.bitReset]

@[simp] theorem bitSet_skew (b : Fin 8) (d : Operand8) :
    (skew op addr k s).bitSet b d = skew op addr k (s.bitSet b d) := by simp [State.bitSet]

theorem executeCb_skew (cb : Byte) : (skew op addr k s).executeCb cb = skew op addr k (s.executeCb cb) := by
  unfold State.executeCb
  split <;> simp

@[simp] theorem getStackPair_skew (q : StackPair) : (skew op addr k s).getStackPair q = s.getStackPair q := by
  cases q <;> rfl

@[simp] theorem push16_skew (v : Word) : (skew op addr k s).push16 v = skew op addr k (s.push16 v) := by
  simp only [State.push16, State.writeByte, skew]

@[simp] theorem call_skew (x : Word) : (skew op addr k s).call x = skew op addr k (s.call x) :=
  congrArg (State.jump · x) (push16_skew op addr k s s.pc)

@[simp] theorem popPc_skew : (skew op addr k s).popPc = skew op addr k s.popPc := rfl

@[simp] theorem addCycles_skew (n : Nat) : (skew op addr k s).addCycles n = skew op addr k (s.addCycles n) := rfl

@[simp] theorem cond_skew (cc : Cond) : (skew op addr k s).cond cc = s.cond cc := by cases cc <;> rfl

theorem modifyByte_skew (x : Word) (g : Byte → Byte) :
    (skew op addr k s).modifyByte x g = skew op addr k (s.modifyByte x g) := rfl

theorem enterInterrupt_skew (p : Params) (i : Fin 5) :
    (skew op addr k s).enterInterrupt p i = skew op addr k (s.enterInterrupt p i) := by
  have hc : ({ skew op addr k s with ime := false } : State).modifyByte p.ifAddr (clearRequest i) =
      skew op addr k ({ s with ime := false }.modifyByte p.ifAddr (clearRequest i)) :=
    modifyByte_skew op addr k { s with ime := false } _ _
  simp only [State.enterInterrupt, hc, call_skew]
  simp only [State.addCycles, skew]

theorem interruptCheck_skew (p : Params) :
    (skew op addr k s).interruptCheck p = skew op addr k (s.interruptCheck p) := by
  rcases State.interruptCheck_cases s p with ⟨he, hn⟩ | ⟨i, hi, hl, he⟩ <;> rw [he]
  · rcases hn with hn | hn
    · exact State.interruptCheck_of_ime_false (s := skew op addr k s) p hn
    · exact State.interruptCheck_of_none (s := skew op addr k s) p hn
  · rw [← enterInterrupt_skew]
    exact State.interruptCheck_of_some (s := skew op addr k s) p hi hl

theorem applyIme_skew (mode : EiDelayMode) (p0 : Bool) (kind : StepKind) :
    (skew op addr k s).applyIme mode p0 kind = skew op addr k (s.applyIme mode p0 kind) := by
  unfold State.applyIme
  split
  · rfl
  · rw [show (skew op addr k s).imePending = s.imePending from rfl]
    split <;> rfl

end Operations

/-! ## Instructions: the latch stands as the fetch left it, since a fault records it -/

section Instructions

variable (k : Nat) (s : State)

theorem jumpIf_skew (cc : Cond) (x : Word) :
    jumpIf cc x (skew id id k s) = mapState (skew id id k) (jumpIf cc x s) := by
  unfold jumpIf
  rw [cond_skew]
  split <;> rfl

theorem callIf_skew (cc : Cond) (x : Word) :
    callIf cc x (skew id id k s) = mapState (skew id id k) (callIf cc x s) := by
  unfold callIf
  rw [cond_skew, call_skew, addCycles_skew]
  split <;> rfl

theorem returnIf_skew (cc : Cond) : returnIf cc (skew id id k s) = mapState (skew id id k) (returnIf cc s) := by
  unfold returnIf
  rw [cond_skew]
  split <;> rfl

theorem storeAccumulatorStepping_skew (delta : Word) : storeAccumulatorStepping delta (skew id id k s) =
    mapState (skew id id k) (storeAccumulatorStepping delta s) := rfl

theorem haltWith_skew (p : Params) : haltWith p (skew id id k s) = mapState (skew id id k) (haltWith p s) := by
  unfold haltWith
  rw [show (skew id id k s).ime = s.ime from rfl, show (skew id id k s).pending p = s.pending p from rfl]
  split <;> rfl

theorem prefixCbWith_skew (p : Params) :
    prefixCbWith p (skew id id k s) = mapState (skew id id k) (prefixCbWith p s) := by
  have hcb : State.executeCb { skew id id k s with pc := s.pc + 1 } (s.readByte s.pc) =
      skew id id k (State.executeCb { s with pc := s.pc + 1 } (s.readByte s.pc)) :=
    executeCb_skew id id k { s with pc := s.pc + 1 } _
  exact congrArg (fun t : State => Host.Outcome.next (t.addCycles (p.cbCost (s.readByte s.pc)))) hcb

/-- No instruction reads `total`. -/
theorem exec_skew (i : Instr) : exec i (skew id id k s) = mapState (skew id id k) (exec i s) := by
  induction i using Instr.family_cases
  case load d src =>
    cases d with
    | reg r => simp [loadOperand, mapState]
    | memHL =>
      cases src with
      | reg r => simp [loadOperand, mapState]
      | memHL => exact haltWith_skew k s engineParams
  case loadImm => simp [loadImmediate, mapState]
  case alu => simp [aluOperand, mapState]
  case aluImm => simp [aluImmediate, mapState]
  case inc => simp [incOperand, mapState]
  case dec => simp [decOperand, mapState]
  case rot => simp [mapState]
  case bit => simp [mapState]
  case res => simp [mapState]
  case set => simp [mapState]
  case loadPair rp n => cases rp <;> rfl
  case addHL rp => cases rp <;> rfl
  case incPair rp => cases rp <;> rfl
  case decPair rp => cases rp <;> rfl
  case push => simp [pushPair, mapState]
  case pop q => cases q <;> rfl
  case jumpCond => rw [exec_jumpCondInstr, exec_jumpCondInstr, jumpIf_skew]
  case jumpRelCond => rw [exec_jumpRelCondInstr, exec_jumpRelCondInstr]; exact jumpIf_skew ..
  case callCond => rw [exec_callCondInstr, exec_callCondInstr, callIf_skew]
  case retCond => rw [exec_retCondInstr, exec_retCondInstr, returnIf_skew]
  case rst => simp [restart, mapState]
  case of_ldMemHLIncA | of_ldMemHLDecA => exact storeAccumulatorStepping_skew ..
  case of_scf | of_ccf => exact congrArg Host.Outcome.next (by simp)
  case of_callN16 n => exact congrArg Host.Outcome.next (call_skew id id k s n)
  case of_prefixCb => exact prefixCbWith_skew k s engineParams
  case illegal i hi =>
    obtain ⟨b, hb, he⟩ := exec_illegal hi s
    obtain ⟨b', hb', he'⟩ := exec_illegal hi (skew id id k s)
    obtain rfl : b = b' := List.singleton_inj.mp (hb.symm.trans hb')
    rw [he, he']
    rfl
  all_goals rfl

theorem execWith_skew (p : Params) (i : Instr) :
    execWith p i (skew id id k s) = mapState (skew id id k) (execWith p i s) := by
  unfold execWith
  split
  · exact haltWith_skew k s p
  · exact prefixCbWith_skew k s p
  · exact exec_skew k s i

end Instructions

/-! ## The timer reads `total` modulo 1024 only (`60_exceptions.md` R256, R257) -/

section Steps

variable (p : Params) (op : Byte → Byte) (addr : Word → Word) (n : Nat) (s : State)

theorem timerPeriod_dvd (tac : Byte) : timerPeriod tac ∣ 1024 := by
  unfold timerPeriod
  split <;> decide

theorem tickDivider_skew :
    (skew op addr (1024 * n) s).tickDivider p = skew op addr (1024 * n) (s.tickDivider p) := by
  have ht : (skew op addr (1024 * n) s).total % 256 = s.total % 256 := by
    rw [show (skew op addr (1024 * n) s).total = s.total + 1024 * n from rfl]
    omega
  unfold State.tickDivider
  rw [ht]
  split <;> rfl

theorem counterTicks_skew : (skew op addr (1024 * n) s).counterTicks p = s.counterTicks p := by
  have ht : (s.total + 1024 * n) % timerPeriod (s.readByte p.tacAddr) =
      s.total % timerPeriod (s.readByte p.tacAddr) := by
    obtain ⟨c, hc⟩ := timerPeriod_dvd (s.readByte p.tacAddr)
    rw [hc, Nat.mul_assoc, Nat.add_mul_mod_self_left]
  exact congrArg (fun r => (s.readByte p.tacAddr).getLsbD 2 && decide (r = 0)) ht

theorem tickCounter_skew :
    (skew op addr (1024 * n) s).tickCounter p = skew op addr (1024 * n) (s.tickCounter p) := by
  unfold State.tickCounter State.countTima
  rw [counterTicks_skew]
  split
  · rw [show (skew op addr (1024 * n) s).readByte p.timaAddr = s.readByte p.timaAddr from rfl]
    split <;> rfl
  · rfl

theorem timerTick_skew : (skew op addr (1024 * n) s).timerTick p = skew op addr (1024 * n) (s.timerTick p) := by
  have hc : ({ skew op addr (1024 * n) s with total := s.total + 1024 * n + 1 } : State) =
      skew op addr (1024 * n) { s with total := s.total + 1 } := by
    simp only [skew, Nat.add_right_comm]
  rw [State.timerTick, State.timerTick, ← tickCounter_skew, ← tickDivider_skew, ← hc]
  rfl

/-! ## Steps -/

theorem midStep_skew : (skew op addr (1024 * n) s).midStep p = skew op addr (1024 * n) (s.midStep p) := by
  cases h : p.midOrder with
  | timerFirst =>
    rw [State.midStep_timerFirst s h, State.midStep_timerFirst _ h, ← interruptCheck_skew, ← applyIme_skew,
      ← timerTick_skew]
    rfl
  | timerLast =>
    rw [State.midStep_timerLast s h, State.midStep_timerLast _ h, ← timerTick_skew, ← interruptCheck_skew,
      ← applyIme_skew]
    rfl

theorem finishFetch_skew (p0 : Bool) (i : Instr) :
    (skew op addr (1024 * n) s).finishFetch p p0 i = skew op addr (1024 * n) (s.finishFetch p p0 i) := by
  rw [State.finishFetch, State.finishFetch, ← timerTick_skew, ← interruptCheck_skew, ← applyIme_skew]
  rfl

/-- A fetch step latches the opcode and its address anew, so of the three fields it sees `total` only. -/
theorem fetchStep_skew :
    fetchStep p (skew op addr (1024 * n) s) = mapState (skew id id (1024 * n)) (fetchStep p s) := by
  by_cases hi : illegalByte p (s.readByte s.pc)
  · rw [Scope.fetchStep_of_illegalByte hi, Scope.fetchStep_of_illegalByte (s := skew op addr (1024 * n) s) hi]
    rfl
  · obtain ⟨hl, hd⟩ := not_or.mp hi
    obtain ⟨u, hu⟩ := execWith_next p s.fetchedInstr (Scope.hasTableEntry_decodeBytes hd _ _)
      (s.afterFetch p.stopLength)
    have hu' : execWith p s.fetchedInstr (skew id id (1024 * n) (s.afterFetch p.stopLength)) =
        .next (skew id id (1024 * n) u) := by
      rw [execWith_skew, hu]
      rfl
    rw [fetchStep_of_next hl hu, fetchStep_of_next (s := skew op addr (1024 * n) s) hl hu']
    exact congrArg Host.Outcome.next (finishFetch_skew ..)

/-- The step from the state with the three fields changed: a step that fetches latches the opcode and its address anew
and differs in `total` only; any other step passes the three differences on. -/
theorem stepWith_skew :
    stepWith p (skew op addr (1024 * n) s) = mapState (skew id id (1024 * n)) (stepWith p s) ∨
    ∃ t, stepWith p s = .next t ∧
      stepWith p (skew op addr (1024 * n) s) = .next (skew op addr (1024 * n) t) := by
  cases hs : s.stopped with
  | true =>
    refine .inr ⟨_, stepWith_stopped p hs, ?_⟩
    rw [← timerTick_skew]
    exact stepWith_stopped p (s := skew op addr (1024 * n) s) hs
  | false =>
    by_cases hw : s.halted = true → s.pending p ≠ 0
    · rcases Nat.eq_zero_or_pos s.remaining with hr | hr
      · left
        rw [stepWith_fetch p hs hw hr, ← fetchStep_skew p op addr]
        exact stepWith_fetch p (s := skew op addr (1024 * n) s) hs hw hr
      · refine .inr ⟨_, stepWith_mid_awake p hs hw hr, ?_⟩
        rw [← midStep_skew]
        exact stepWith_mid_awake p (s := skew op addr (1024 * n) s) hs hw hr
    · obtain ⟨hh, hp⟩ := Classical.not_imp.mp hw
      refine .inr ⟨_, stepWith_halted p hs hh (not_not.mp hp), ?_⟩
      rw [← timerTick_skew]
      exact stepWith_halted p (s := skew op addr (1024 * n) s) hs hh (not_not.mp hp)

end Steps

/-- A step that goes on counts one cycle: only its timer tick writes `total` (R33, R255). -/
theorem total_of_stepWith {p : Params} {s t : State} (h : stepWith p s = .next t) : t.total = s.total + 1 := by
  rcases stepWith_next h with ⟨-, rfl⟩ | ⟨-, -, -, rfl⟩ | ⟨-, -, -, rfl⟩ | ⟨-, -, -, hf⟩
  · exact State.timerTick_total s p
  · exact State.timerTick_total s p
  · exact midStep_total s.awake p
  · obtain ⟨-, u, hu, rfl⟩ := fetchStep_next hf
    rw [finishFetch_total, total_of_runs (runs_of_execWith hu)]
    rfl

/-- Settles O40: the skew with the latch left alone. -/
theorem totalCountsStepsAndOnlyItsResidueMatters : Obligations.TotalCountsStepsAndOnlyItsResidueMatters := by
  refine fun p s n => ⟨fun t ht => total_of_stepWith ht, ?_⟩
  rcases stepWith_skew p id id n s with h | ⟨t, ht, h⟩
  · exact h
  · rw [ht]
    exact h

theorem mapState_skew_zero (r : Result) : mapState (skew id id 0) r = r := by
  rcases r with _ | ⟨_, _, _⟩ | _ <;> rfl

/-- Settles O41: the skew with `total` left alone. A step that fetches answers outright the same; any other step goes
on, and passes the latch on. -/
theorem opcodeLatchIsNeverRead : Obligations.OpcodeLatchIsNeverRead := by
  intro p s op x blank
  rcases stepWith_skew p (fun _ => op) (fun _ => x) 0 s with h | ⟨t, ht, h⟩
  · have he : stepWith p { s with opcode := op, opcodeAddr := x } = stepWith p s := h.trans (mapState_skew_zero _)
    rw [he]
    exact ⟨rfl, fun _ hr => hr⟩
  · have he : stepWith p { s with opcode := op, opcodeAddr := x } = .next { t with opcode := op, opcodeAddr := x } := h
    rw [he, ht]
    exact ⟨rfl, nofun⟩

end Sys2Proof.Proofs.Unobserved
end
section
/-! PROOF. The stack: what PUSH and POP of a pair write and leave, and that POP undoes PUSH (`20_memory.md` R57, R58; `45_load16_stack.md` R193 to R195). -/

namespace Sys2Proof.Proofs.Stack

open Sys2Proof Sys2Proof.Machine Sys2Proof.Proofs.Rows

/-! ## Reading and writing a stack pair -/

/-- The registers a stack pair is a view of, beside F (`10_state.md` R20, R21). -/
def stackPairRegs : StackPair → List Reg8
  | .bc => [.b, .c]
  | .de => [.d, .e]
  | .hl => [.h, .l]
  | .af => [.a]

@[simp] theorem getStackPair_push16 (s : State) (v : Word) (q : StackPair) :
    (s.push16 v).getStackPair q = s.getStackPair q := by
  cases q <;> simp [State.getStackPair, State.readF]

@[simp] theorem getStackPair_dropTop (s : State) (q : StackPair) :
    s.dropTop.getStackPair q = s.getStackPair q := by
  cases q <;> rfl

/-- A pair read from one state and written to another reads back, AF included: its low nibble was zero already. -/
theorem getStackPair_setStackPair_getStackPair (s s' : State) (q : StackPair) :
    (s'.setStackPair q (s.getStackPair q)).getStackPair q = s.getStackPair q := by
  cases q with
  | af => simp [State.getStackPair, State.setStackPair, State.readF, BitVec.and_assoc]
  | _ => simp [State.getStackPair, State.setStackPair]

/-- Only the pair's own registers change. -/
theorem regsSame_setStackPair (s : State) (q : StackPair) (v : Word) :
    regsSame (stackPairRegs q) s (s.setStackPair q v) := by
  intro r hr
  cases q <;> cases r <;> simp [stackPairRegs, State.setStackPair, State.getReg] at hr ⊢

/-- Writing back a pair's own value changes no register. -/
theorem regsSame_setStackPair_own {s : State} {q : StackPair} {v : Word} (h : s.getStackPair q = v) :
    regsSame [] s (s.setStackPair q v) := by
  subst h
  intro r _
  cases q <;> cases r <;> simp [State.setStackPair, State.getStackPair, State.getReg]

/-- Writing back a pair's own value changes no flag: AF's low byte is F as it reads. -/
theorem flagsSame_setStackPair_own {s : State} {q : StackPair} {v : Word} (h : s.getStackPair q = v) :
    flagsSame s (s.setStackPair q v) := by
  subst h
  cases q with
  | af => simp [flagsSame, State.setStackPair, State.getStackPair, State.readF, BitVec.and_assoc]
  | _ => rfl

/-- F holding a byte with bits 3:0 cleared: the flags are that byte's bits 7 to 4 (`10_state.md` R22, R23). -/
theorem flagsAre_of_masked {t : State} {v : Byte} (hf : t.f = v &&& 0xF0) :
    flagsAre t (v.getLsbD 7) (v.getLsbD 6) (v.getLsbD 5) (v.getLsbD 4) := by
  simp [flagsAre, State.flagZ, State.flagN, State.flagH, State.flagC, hf, BitVec.and_assoc]

/-! ## PUSH and POP -/

theorem hasRow_pushInstr (q : StackPair) :
    hasRow (pushInstr q) [BitVec.ofNat 8 (0xC5 + 16 * stackPairCode q)] 16 :=
  ⟨encode_pushInstr q, by cases q <;> rfl⟩

theorem hasRow_popInstr (q : StackPair) :
    hasRow (popInstr q) [BitVec.ofNat 8 (0xC1 + 16 * stackPairCode q)] 12 :=
  ⟨encode_popInstr q, by cases q <;> rfl⟩

/-- The low byte of AF is F with bits 3:0 zero. -/
theorem lowByte_getStackPair_af (s : State) : lowByte (s.getStackPair .af) = s.f &&& 0xF0 :=
  State.lowByte_join ..

/-- POP leaves memory and the execution state, and raises SP by two. -/
theorem pop_keeps (s : State) (q : StackPair) (v : Word) :
    (s.dropTop.setStackPair q v).sp = s.sp + 2 ∧ memSame [] s (s.dropTop.setStackPair q v) ∧
      controlSame s (s.dropTop.setStackPair q v) := by
  simp [memSame, controlSame, engineSame]

theorem regsSame_pop (s : State) (q : StackPair) (v : Word) :
    regsSame (stackPairRegs q) s (s.dropTop.setStackPair q v) := fun r hr =>
  (regsSame_setStackPair s.dropTop q v r hr).trans (State.getReg_dropTop s r)

/-- Settles O23: PUSH is `push16` of the pair, and for AF the low byte is F masked. -/
theorem pushStoresHighThenLow : Obligations.PushStoresHighThenLow := by
  intro q s
  obtain ⟨hpushed, hkeeps⟩ := pushed_push16 s (s.getStackPair q)
  refine ⟨hasRow_pushInstr q, _, exec_pushInstr q s, hpushed, ?_, hkeeps⟩
  rintro rfl
  obtain ⟨-, -, hlow, -⟩ := hpushed
  rw [hlow, lowByte_getStackPair_af]
  simp [BitVec.and_assoc]

/-- Settles O24: POP drops the top of the stack and writes it to the pair, half by half. -/
theorem popLoadsLowThenHigh : Obligations.PopLoadsLowThenHigh := by
  intro q s
  obtain ⟨hsp, hmem, hcontrol⟩ := pop_keeps s q s.stackTop
  have hregs := regsSame_pop s q s.stackTop
  refine ⟨hasRow_popInstr q, _, exec_popInstr q s, hsp, hmem, hcontrol, ?_⟩
  have hhigh : highByte s.stackTop = s.readByte (s.sp + 1) := State.highByte_join ..
  have hlow : lowByte s.stackTop = s.readByte s.sp := State.lowByte_join ..
  cases q with
  | af =>
    have hf : (s.dropTop.setStackPair .af s.stackTop).f = s.readByte s.sp &&& 0xF0 := congrArg (· &&& 0xF0) hlow
    exact ⟨hhigh, hf, hregs, flagsAre_of_masked hf⟩
  | _ => exact ⟨hhigh, hlow, hregs, rfl⟩

/-- POP after a PUSH of the same pair writes back the pair's own value. -/
theorem exec_popInstr_push16 (q : StackPair) (s : State) :
    exec (popInstr q) (s.push16 (s.getStackPair q)) =
      .next ((s.push16 (s.getStackPair q)).dropTop.setStackPair q (s.getStackPair q)) := by
  rw [exec_popInstr, popPair, State.stackTop_push16]

/-- Settles O25: between PUSH and POP the pair still holds its value, so POP writes back what is there. -/
theorem pushThenPopRestoresPair : Obligations.PushThenPopRestoresPair := by
  intro q s
  have hpair : (s.push16 (s.getStackPair q)).dropTop.getStackPair q = s.getStackPair q := by simp
  have hsp : ((s.push16 (s.getStackPair q)).dropTop.setStackPair q (s.getStackPair q)).sp = s.sp := by simp
  obtain ⟨-, hpushRegs, hpushFlags, -⟩ := pushed_push16 s (s.getStackPair q)
  exact ⟨_, _, exec_pushInstr q s, exec_popInstr_push16 q s, getStackPair_setStackPair_getStackPair .., hsp,
    fun r hr => (regsSame_setStackPair_own hpair r hr).trans (hpushRegs r hr),
    (flagsSame_setStackPair_own hpair).trans hpushFlags⟩

end Sys2Proof.Proofs.Stack
end
section
/-! SUPPORT. How many bytes the decoder reads: an instruction decodes back from bytes that begin with its own, and the decoded instruction's bytes are the bytes read (`30_encoding.md` R70 to R82). -/

namespace Sys2Proof.Proofs.Encoding

open Sys2Proof Sys2Proof.Machine Sys2Proof.Proofs.Scope Sys2Proof.Proofs.Rows

/-! ## From the bytes of a row back to the row -/

/-- The decoder reads `i` from any bytes that begin with the encoding of `i`. -/
def ReadsBack (i : Instr) : Prop := ∀ rest : List Byte, decode (encode i ++ rest) = .ok i

/-- A one-byte row reads back when its opcode byte decodes to it whatever follows. -/
theorem readsBack_of_one {i : Instr} {op : Byte} (henc : encode i = [op]) (hlen : opcodeLength .two op = 1)
    (hdec : ∀ b1 b2, decodeBytes op b1 b2 = i) : ReadsBack i := by
  have hcb : op ≠ 0xCB := by
    rintro rfl
    exact absurd hlen (by decide)
  intro rest
  rw [henc]
  match rest with
  | [] => simp only [List.append_nil, decode, if_neg hcb, if_pos hlen, hdec]
  | [b1] => simp [decode, hlen, hdec]
  | b1 :: b2 :: _ => simp [decode, hdec]

/-- A two-byte row reads back when its bytes decode to it whatever the third byte. -/
theorem readsBack_of_two {i : Instr} {op b1 : Byte} (henc : encode i = [op, b1]) (hlen : opcodeLength .two op = 2)
    (hdec : ∀ b2, decodeBytes op b1 b2 = i) : ReadsBack i := by
  intro rest
  rw [henc]
  match rest with
  | [] => simp [decode, hlen, hdec]
  | b2 :: _ => simp [decode, hdec]

/-- A row with a 16-bit operand reads back when its opcode byte decodes to it with that operand, low byte first (R72). -/
theorem readsBack_of_three {row : Word → Instr} {op : Byte} {n : Word}
    (henc : encode (row n) = [op, lowByte n, highByte n])
    (hdec : ∀ b1 b2, decodeBytes op b1 b2 = row (joinBytes b2 b1)) : ReadsBack (row n) := by
  intro rest
  simp [henc, decode, hdec]

/-- A row without a table entry is the row of a byte of ILLEGAL_SET (R79). -/
theorem illegal_row {i : Instr} (h : i.hasTableEntry = false) :
    ∃ op ∈ illegalSet, ∀ b1 b2, decodeBytes op b1 b2 = i := by
  unfold Instr.hasTableEntry at h
  split at h
  case h_1 => exact ⟨0xD3, by decide, fun _ _ => rfl⟩
  case h_2 => exact ⟨0xDB, by decide, fun _ _ => rfl⟩
  case h_3 => exact ⟨0xDD, by decide, fun _ _ => rfl⟩
  case h_4 => exact ⟨0xE3, by decide, fun _ _ => rfl⟩
  case h_5 => exact ⟨0xE4, by decide, fun _ _ => rfl⟩
  case h_6 => exact ⟨0xEB, by decide, fun _ _ => rfl⟩
  case h_7 => exact ⟨0xEC, by decide, fun _ _ => rfl⟩
  case h_8 => exact ⟨0xED, by decide, fun _ _ => rfl⟩
  case h_9 => exact ⟨0xF4, by decide, fun _ _ => rfl⟩
  case h_10 => exact ⟨0xFC, by decide, fun _ _ => rfl⟩
  case h_11 => exact ⟨0xFD, by decide, fun _ _ => rfl⟩
  case h_12 => cases h

theorem readsBack_illegal {i : Instr} (h : i.hasTableEntry = false) : ReadsBack i := by
  obtain ⟨op, hop, hdec⟩ := illegal_row h
  have henc : encode i = [op] := hdec 0 0 ▸ (decodeBytes_illegal hop 0 0).2
  exact readsBack_of_one henc (opcodeLength_illegal .two hop) hdec

/-- Every instruction but `prefixCb` reads back: family by family, by the length of the family's rows. -/
theorem readsBack_of_selfContained (i : Instr) (hi : i.selfContained = true) : ReadsBack i := by
  induction i using Instr.family_cases with
  | of_prefixCb => cases hi
  | illegal i h => exact readsBack_illegal h
  | load d s => rcases d with ⟨⟨⟩⟩ | _ <;> rcases s with ⟨⟨⟩⟩ | _ <;> exact readsBack_of_one rfl rfl fun _ _ => rfl
  | alu o s => cases o <;> rcases s with ⟨⟨⟩⟩ | _ <;> exact readsBack_of_one rfl rfl fun _ _ => rfl
  | inc d | dec d => rcases d with ⟨⟨⟩⟩ | _ <;> exact readsBack_of_one rfl rfl fun _ _ => rfl
  | addHL p | incPair p | decPair p => cases p <;> exact readsBack_of_one rfl rfl fun _ _ => rfl
  | push q | pop q => cases q <;> exact readsBack_of_one rfl rfl fun _ _ => rfl
  | retCond cc => cases cc <;> exact readsBack_of_one rfl rfl fun _ _ => rfl
  | rst y => fin_cases y <;> exact readsBack_of_one rfl rfl fun _ _ => rfl
  | rot o d => cases o <;> rcases d with ⟨⟨⟩⟩ | _ <;> exact readsBack_of_two rfl rfl fun _ => rfl
  | bit b d | res b d | set b d =>
    fin_cases b <;> rcases d with ⟨⟨⟩⟩ | _ <;> exact readsBack_of_two rfl rfl fun _ => rfl
  | loadImm d n => rcases d with ⟨⟨⟩⟩ | _ <;> exact readsBack_of_two rfl rfl fun _ => rfl
  | aluImm o n => cases o <;> exact readsBack_of_two rfl rfl fun _ => rfl
  | jumpRelCond cc e => cases cc <;> exact readsBack_of_two rfl rfl fun _ => rfl
  | of_stop b | of_jrE8 b | of_ldhMemN8A b | of_addSPE8 b | of_ldhAMemN8 b | of_ldHLSPE8 b =>
    exact readsBack_of_two rfl rfl fun _ => rfl
  | loadPair p n => exact readsBack_of_three (encode_loadPairInstr p n) (by cases p <;> exact fun _ _ => rfl)
  | jumpCond cc n => exact readsBack_of_three (encode_jumpCondInstr cc n) (by cases cc <;> exact fun _ _ => rfl)
  | callCond cc n => exact readsBack_of_three (encode_callCondInstr cc n) (by cases cc <;> exact fun _ _ => rfl)
  | of_ldMemN16SP n => exact readsBack_of_three (row := .ldMemN16SP) rfl fun _ _ => rfl
  | of_jpN16 n => exact readsBack_of_three (row := .jpN16) rfl fun _ _ => rfl
  | of_callN16 n => exact readsBack_of_three (row := .callN16) rfl fun _ _ => rfl
  | of_ldMemN16A n => exact readsBack_of_three (row := .ldMemN16A) rfl fun _ _ => rfl
  | of_ldAMemN16 n => exact readsBack_of_three (row := .ldAMemN16) rfl fun _ _ => rfl
  | _ => exact readsBack_of_one rfl rfl fun _ _ => rfl

/-- `prefixCb` too is read from its own byte, since none follows it there (R106, log entry 11). -/
theorem decode_encode (i : Instr) : decode (encode i) = .ok i := by
  cases hi : i.selfContained with
  | true => simpa using readsBack_of_selfContained i hi []
  | false =>
    unfold Instr.selfContained at hi
    split at hi
    · rfl
    · cases hi

/-! ## From three bytes to the bytes read -/

theorem opcodeLength_bounds : ∀ op : Byte, 1 ≤ opcodeLength .two op ∧ opcodeLength .two op ≤ 3 := by
  decide +kernel

/-- STOP_LENGTH changes the length of the byte 0x10 alone (R70). -/
theorem opcodeLength_one : ∀ op : Byte,
    opcodeLength .one op = if op = 0x10 then 1 else opcodeLength .two op := by
  decide +kernel

/-- In the column of PUSH, CALL n16 alone has three bytes; the model names it by its byte, this by its fields (R77). -/
theorem opcodeLength_pushColumn : ∀ op : Byte, fieldX op = 3 → fieldZ op = 5 →
    opcodeLength .two op = if fieldQ op = 1 ∧ fieldP op = 0 then 3 else 1 := by
  decide +kernel

/-- The bytes after the opcode byte that belong to the instruction (R70). -/
def operandBytes (op b1 b2 : Byte) : List Byte := [b1, b2].take (opcodeLength .two op - 1)

section Operands

variable {op : Byte} (b1 b2 : Byte)

theorem operandBytes_of_one (hlen : opcodeLength .two op = 1) : operandBytes op b1 b2 = [] := by
  rw [operandBytes, hlen]; rfl

theorem operandBytes_of_two (hlen : opcodeLength .two op = 2) : operandBytes op b1 b2 = [b1] := by
  rw [operandBytes, hlen]; rfl

/-- A 16-bit operand is written back low byte first, as it was read (R72). -/
theorem operandBytes_of_three (hlen : opcodeLength .two op = 3) :
    operandBytes op b1 b2 = [lowByte (joinBytes b2 b1), highByte (joinBytes b2 b1)] := by
  rw [operandBytes, hlen, State.lowByte_join, State.highByte_join]; rfl

/-- A row of block 0 encodes to the operand bytes it was decoded from (R74). -/
theorem tail_encode_decodeBlock0 (hx : fieldX op = 0) :
    (encode (decodeBlock0 op b1 (joinBytes b2 b1))).tail = operandBytes op b1 b2 := by
  unfold decodeBlock0
  split
  case h_1 hz =>
    split
    case h_1 hy => exact (operandBytes_of_one b1 b2 (by simp [opcodeLength, hx, hz, hy])).symm
    case h_2 hy => exact (operandBytes_of_three b1 b2 (by simp [opcodeLength, hx, hz, hy])).symm
    case h_3 hy | h_4 hy => exact (operandBytes_of_two b1 b2 (by simp [opcodeLength, hx, hz, hy])).symm
    case h_5 hy | h_6 hy | h_7 hy | h_8 hy =>
      rw [encode_jumpRelCondInstr, operandBytes_of_two b1 b2 (by simp [opcodeLength, hx, hz, hy])]
      rfl
  case h_2 hz =>
    split
    case h_1 hq =>
      rw [encode_loadPairInstr, operandBytes_of_three b1 b2 (by simp [opcodeLength, hx, hz, hq])]
      rfl
    case h_2 hq =>
      rw [encode_addHLInstr, operandBytes_of_one b1 b2 (by simp [opcodeLength, hx, hz, hq])]
      rfl
  case h_3 hz | h_8 hz =>
    rw [operandBytes_of_one b1 b2 (by simp [opcodeLength, hx, hz])]
    split <;> rfl
  case h_4 hz =>
    rw [operandBytes_of_one b1 b2 (by simp [opcodeLength, hx, hz])]
    split <;> simp
  case h_5 hz | h_6 hz =>
    rw [operandBytes_of_one b1 b2 (by simp [opcodeLength, hx, hz])]
    simp
  case h_7 hz =>
    rw [operandBytes_of_two b1 b2 (by simp [opcodeLength, hx, hz])]
    simp

/-- A row of block 3 encodes to the operand bytes it was decoded from, a CB row's second byte among them (R77, R79). -/
theorem tail_encode_decodeBlock3 (hx : fieldX op = 3) :
    (encode (decodeBlock3 op b1 (joinBytes b2 b1))).tail = operandBytes op b1 b2 := by
  unfold decodeBlock3
  split
  case h_1 hz =>
    split
    case h_1 hy | h_2 hy | h_3 hy | h_4 hy =>
      rw [encode_retCondInstr, operandBytes_of_one b1 b2 (by simp [opcodeLength, hx, hz, hy])]
      rfl
    case h_5 hy | h_6 hy | h_7 hy | h_8 hy =>
      exact (operandBytes_of_two b1 b2 (by simp [opcodeLength, hx, hz, hy])).symm
  case h_2 hz =>
    rw [operandBytes_of_one b1 b2 (by simp [opcodeLength, hx, hz])]
    split
    · rw [encode_popInstr]; rfl
    · split <;> rfl
  case h_3 hz =>
    split
    case h_1 hy | h_2 hy | h_3 hy | h_4 hy =>
      rw [encode_jumpCondInstr, operandBytes_of_three b1 b2 (by simp [opcodeLength, hx, hz, hy])]
      rfl
    case h_5 hy | h_7 hy => exact (operandBytes_of_one b1 b2 (by simp [opcodeLength, hx, hz, hy])).symm
    case h_6 hy | h_8 hy => exact (operandBytes_of_three b1 b2 (by simp [opcodeLength, hx, hz, hy])).symm
  case h_4 hz =>
    split
    case h_1 hy => exact (operandBytes_of_three b1 b2 (by simp [opcodeLength, hx, hz, hy])).symm
    case h_2 hy =>
      rw [encode_decodeCb, operandBytes_of_two b1 b2 (by simp [opcodeLength, hx, hz, hy])]
      rfl
    case h_3 hy | h_4 hy | h_5 hy | h_6 hy | h_7 hy | h_8 hy =>
      exact (operandBytes_of_one b1 b2 (by simp [opcodeLength, hx, hz, hy])).symm
  case h_5 hz =>
    split
    case h_1 hy | h_2 hy | h_3 hy | h_4 hy =>
      rw [encode_callCondInstr, operandBytes_of_three b1 b2 (by simp [opcodeLength, hx, hz, hy])]
      rfl
    case h_5 hy | h_6 hy | h_7 hy | h_8 hy =>
      exact (operandBytes_of_one b1 b2 (by simp [opcodeLength, hx, hz, hy])).symm
  case h_6 hz =>
    have hlen := opcodeLength_pushColumn op hx hz
    split
    case h_1 hq =>
      rw [encode_pushInstr, operandBytes_of_one b1 b2 (by simp [hlen, hq])]
      rfl
    case h_2 hq =>
      split
      case h_1 hp => exact (operandBytes_of_three b1 b2 (by simp [hlen, hq, hp])).symm
      case h_2 hp | h_3 hp | h_4 hp =>
        exact (operandBytes_of_one b1 b2 (by simp [hlen, hp])).symm
  case h_7 hz =>
    rw [encode_aluImmInstr, operandBytes_of_two b1 b2 (by simp [opcodeLength, hx, hz])]
    rfl
  case h_8 hz =>
    rw [encode_rstInstr, operandBytes_of_one b1 b2 (by simp [opcodeLength, hx, hz])]
    rfl

end Operands

/-- The decoded instruction's bytes after the first are the operand bytes; blocks 1 and 2 have none (R75, R76). -/
theorem tail_encode_decodeBytes (op b1 b2 : Byte) :
    (encode (decodeBytes op b1 b2)).tail = operandBytes op b1 b2 := by
  unfold decodeBytes
  split
  case h_1 hx => exact tail_encode_decodeBlock0 b1 b2 hx
  case h_2 hx =>
    rw [encode_loadInstr, operandBytes_of_one b1 b2 (by simp [opcodeLength, hx])]
    rfl
  case h_3 hx =>
    rw [encode_aluInstr, operandBytes_of_one b1 b2 (by simp [opcodeLength, hx])]
    rfl
  case h_4 hx => exact tail_encode_decodeBlock3 b1 b2 hx

/-- The decoded instruction's bytes are the first of the three, as many as the opcode byte fixes. -/
theorem encode_decodeBytes (op b1 b2 : Byte) :
    encode (decodeBytes op b1 b2) = [op, b1, b2].take (opcodeLength .two op) := by
  have hcons := List.eq_cons_of_mem_head? (Option.mem_def.mpr (head_encode_decodeBytes op b1 b2))
  rw [hcons, tail_encode_decodeBytes, operandBytes, List.take_cons (opcodeLength_bounds op).1]

end Sys2Proof.Proofs.Encoding
end
section
/-! PROOF. The encoder and the decoder held against each other, and the bytes without a table entry (`30_encoding.md` R70 to R82). -/

namespace Sys2Proof.Proofs.Encoding

open Sys2Proof Sys2Proof.Machine Sys2Proof.Proofs.Scope Sys2Proof.Proofs.Rows

/-- Settles O50: every instruction but `prefixCb` reads back from any bytes that begin with its own, and `prefixCb` from
its one byte. -/
theorem decodeOfEncodeIsTheInstruction : Obligations.DecodeOfEncodeIsTheInstruction :=
  fun i rest => ⟨decode_encode i, fun hi => readsBack_of_selfContained i hi rest⟩

/-- Settles O51: the decoded instruction's bytes are the three bytes cut to the opcode's length. -/
theorem encodeOfDecodeIsTheBytes : Obligations.EncodeOfDecodeIsTheBytes := by
  intro op b1 b2
  obtain ⟨hpos, hthree⟩ := opcodeLength_bounds op
  have hbytes := encode_decodeBytes op b1 b2
  have hprefix : encode (decodeBytes op b1 b2) <+: [op, b1, b2] := hbytes ▸ List.take_prefix ..
  have hlen : (encode (decodeBytes op b1 b2)).length = opcodeLength .two op := by
    rw [hbytes]
    exact List.length_take_of_le hthree
  exact ⟨hprefix, hlen, hpos, hthree, opcodeLength_one op⟩

/-- Settles O53: a byte of ILLEGAL_SET decodes to its own row without an entry, every other byte to a row with one,
and no byte to `prefixCb`. -/
theorem illegalSetIsExactlyElevenBytes : Obligations.IllegalSetIsExactlyElevenBytes := by
  intro op b1 b2
  have hillegal : (decodeBytes op b1 b2).hasTableEntry = false ↔ op ∈ illegalSet := by
    constructor
    · intro hrow
      by_contra hlegal
      exact Bool.false_ne_true (hrow.symm.trans (hasTableEntry_decodeBytes hlegal b1 b2))
    · exact fun hop => (decodeBytes_illegal hop b1 b2).1
  have hcb : (decodeBytes 0xCB b1 b2).wellFormed = true :=
    Bool.and_eq_true_iff.mpr
      ⟨selfContained_decodeBytes .., hasTableEntry_decodeBytes (op := 0xCB) (by decide) b1 b2⟩
  exact ⟨hillegal, hcb, selfContained_decodeBytes .., rfl⟩

/-- Settles O52: each word is the encoding of the row beside it, so it decodes to that row. -/
theorem sampleWordsDecodeToTheirRows : Obligations.SampleWordsDecodeToTheirRows :=
  ⟨decode_encode .ldAMemHL, decode_encode (.ldAN8 0x42), decode_encode (.ldhAMemN8 0x05), decode_encode .sbcAA,
    decode_encode (.cpAN8 0x3C), decode_encode .decMemHL, decode_encode .bit7H, decode_encode .swapA,
    decode_encode .addHLSP, decode_encode (.ldHLN16 0x1234), decode_encode .popAF, decode_encode (.callCN16 0x0200),
    decode_encode (.stop 0x00), decode_encode .illegalED⟩

end Sys2Proof.Proofs.Encoding
end
section
/-! SUPPORT. The phases around an instruction, each with what it leaves alone, and the mid-instruction step made of them: the interrupt check, the pending-IME transition and the timer tick (`40_execution_cycle.md` R102, R108, R111). -/

namespace Sys2Proof.Proofs.Cycle

open Sys2Proof Sys2Proof.Machine

/-! ## Memory frames compose -/

theorem memSame_trans {l : List Word} {s t u : State} (h : memSame l s t) (h' : memSame l t u) : memSame l s u :=
  fun x hx => (h' x hx).trans (h x hx)

theorem memSame_mono {l l' : List Word} {s t : State} (hl : l ⊆ l') (h : memSame l s t) : memSame l' s t :=
  fun x hx => h x fun hm => hx (hl hm)

/-- A tick changes DIV, TIMA and IF at most (`60_exceptions.md` R255). -/
theorem memSame_timerTick (s : State) (p : Params) : memSame [p.divAddr, p.timaAddr, p.ifAddr] s (s.timerTick p) := by
  intro x hx
  simp only [List.mem_cons, List.not_mem_nil, or_false, not_or] at hx
  obtain ⟨hd, ht, hi⟩ := hx
  exact State.readByte_timerTick_ne s p hd ht hi

/-- An entry changes IF and the two stack bytes at most (`60_exceptions.md` R245). -/
theorem memSame_enterInterrupt (s : State) (p : Params) (i : Fin 5) :
    memSame [p.ifAddr, s.sp - 1, s.sp - 2] s (s.enterInterrupt p i) := by
  intro x hx
  simp only [List.mem_cons, List.not_mem_nil, or_false, not_or] at hx
  obtain ⟨hi, h1, h2⟩ := hx
  rw [State.readByte_enterInterrupt, if_neg h2, if_neg h1, if_neg hi]

/-! ## The interrupt check -/

@[simp] theorem interruptCheck_f (s : State) (p : Params) : (s.interruptCheck p).f = s.f := by
  rcases State.interruptCheck_cases s p with ⟨he, -⟩ | ⟨i, -, -, he⟩ <;> simp [he]

@[simp] theorem interruptCheck_opcode (s : State) (p : Params) : (s.interruptCheck p).opcode = s.opcode := by
  rcases State.interruptCheck_cases s p with ⟨he, -⟩ | ⟨i, -, -, he⟩ <;> simp [he]

@[simp] theorem interruptCheck_opcodeAddr (s : State) (p : Params) :
    (s.interruptCheck p).opcodeAddr = s.opcodeAddr := by
  rcases State.interruptCheck_cases s p with ⟨he, -⟩ | ⟨i, -, -, he⟩ <;> simp [he]

@[simp] theorem interruptCheck_stopped (s : State) (p : Params) : (s.interruptCheck p).stopped = s.stopped := by
  rcases State.interruptCheck_cases s p with ⟨he, -⟩ | ⟨i, -, -, he⟩ <;> simp [he]

@[simp] theorem interruptCheck_haltBug (s : State) (p : Params) : (s.interruptCheck p).haltBug = s.haltBug := by
  rcases State.interruptCheck_cases s p with ⟨he, -⟩ | ⟨i, -, -, he⟩ <;> simp [he]

@[simp] theorem getReg_interruptCheck (s : State) (p : Params) (r : Reg8) :
    (s.interruptCheck p).getReg r = s.getReg r := by
  rcases State.interruptCheck_cases s p with ⟨he, -⟩ | ⟨i, -, -, he⟩ <;> simp [he, State.getReg_enterInterrupt]

/-- The check never halts a core: an entry can clear Halted, not set it (`60_exceptions.md` R252). -/
theorem interruptCheck_halted {s : State} (p : Params) (h : s.halted = false) :
    (s.interruptCheck p).halted = false := by
  rcases State.interruptCheck_cases s p with ⟨he, -⟩ | ⟨i, -, -, he⟩ <;> simp [he, h]

/-- The check does nothing, or enters one source: PC at its vector, SP two lower, IME clear, the latency added, IF and
the two stack bytes written (`60_exceptions.md` R243, R245). -/
theorem interruptCheck_effect (s : State) (p : Params) :
    s.interruptCheck p = s ∨ ∃ i : Fin 5,
      (s.interruptCheck p).pc = interruptVector i ∧ (s.interruptCheck p).sp = s.sp - 2 ∧
      (s.interruptCheck p).ime = false ∧ (s.interruptCheck p).remaining = s.remaining + interruptLatency ∧
      memSame [p.ifAddr, s.sp - 1, s.sp - 2] s (s.interruptCheck p) := by
  rcases State.interruptCheck_cases s p with ⟨he, -⟩ | ⟨i, -, -, he⟩
  · exact .inl he
  · exact .inr ⟨i, by simp [he], by simp [he], by simp [he], by simp [he], he ▸ memSame_enterInterrupt s p i⟩

/-- With IME set, the check leaves IME set exactly when no source is pending, and enters one otherwise. -/
theorem interruptCheck_of_ime {s : State} (p : Params) (h : s.ime = true) :
    if s.pending p = 0 then (s.interruptCheck p).ime = true
    else (s.interruptCheck p).ime = false ∧ (s.interruptCheck p).sp = s.sp - 2 := by
  have hiff := State.pending_eq_zero_iff s p
  rcases State.interruptCheck_cases s p with ⟨he, hn⟩ | ⟨i, -, hl, he⟩
  · have hnone : lowestSource (s.pending p) = none := hn.resolve_left (by simp [h])
    rw [if_pos (hiff.mpr hnone), he, h]
  · have hsome : ¬s.pending p = 0 := fun hz => Option.some_ne_none i (hl.symm.trans (hiff.mp hz))
    rw [if_neg hsome, he]
    exact ⟨State.enterInterrupt_ime .., State.enterInterrupt_sp ..⟩

/-! ## The pending-IME transition -/

/-- Without an enable pending, before the step or at the transition, `ApplyIME` does nothing (R108). -/
theorem applyIme_of_not_pending {s : State} {p0 : Bool} (mode : EiDelayMode) (kind : StepKind)
    (h : p0 = false ∨ s.imePending = false) : s.applyIme mode p0 kind = s := by
  rcases State.applyIme_cases s mode p0 kind with he | ⟨hp0, hp, -, -⟩
  · exact he
  · simp [hp0, hp] at h

/-- Under AFTER_NEXT_INSTRUCTION a mid-instruction step does not apply the enable (R108). -/
theorem applyIme_afterNextInstruction_mid (s : State) (p0 : Bool) :
    s.applyIme .afterNextInstruction p0 .mid = s := if_pos ⟨rfl, rfl⟩

@[simp] theorem getReg_applyIme (s : State) (mode : EiDelayMode) (p0 : Bool) (kind : StepKind) (r : Reg8) :
    (s.applyIme mode p0 kind).getReg r = s.getReg r := by
  cases r <;> simp [State.getReg]

/-- In every other step a pending enable becomes IME (R108). -/
theorem applyIme_of_pending {s : State} {mode : EiDelayMode} {kind : StepKind} (hp : s.imePending = true)
    (hm : ¬(mode = .afterNextInstruction ∧ kind = .mid)) :
    s.applyIme mode true kind = { s with ime := true, imePending := false } := by
  rw [State.applyIme, if_neg hm, hp]
  rfl

/-! ## The mid-instruction step, in both orders -/

/-- What a mid-instruction step has done before ApplyIME: a cycle counted off, and under TIMER_FIRST the tick (R102
branch 3, R111). -/
def midCounted (p : Params) (s : State) : State :=
  match p.midOrder with
  | .timerFirst => { s with remaining := s.remaining - 1 }.timerTick p
  | .timerLast => { s with remaining := s.remaining - 1 }

/-- The state whose interrupts a mid-instruction step checks. -/
def midChecked (p : Params) (s : State) : State := (midCounted p s).applyIme p.eiDelay s.imePending .mid

theorem midCounted_cases (p : Params) (s : State) :
    midCounted p s = { s with remaining := s.remaining - 1 } ∨
      midCounted p s = { s with remaining := s.remaining - 1 }.timerTick p := by
  unfold midCounted
  cases p.midOrder
  · exact .inr rfl
  · exact .inl rfl

/-- A mid-instruction step is that state's interrupt check, under TIMER_LAST with the tick after it. -/
theorem midStep_cases (p : Params) (s : State) :
    s.midStep p = (midChecked p s).interruptCheck p ∨
      s.midStep p = ((midChecked p s).interruptCheck p).timerTick p := by
  unfold midChecked midCounted State.midStep
  cases p.midOrder
  · exact .inl rfl
  · exact .inr rfl

theorem midChecked_fields (p : Params) (s : State) :
    (midChecked p s).pc = s.pc ∧ (midChecked p s).sp = s.sp ∧ (midChecked p s).remaining = s.remaining - 1 := by
  unfold midChecked
  rcases midCounted_cases p s with h | h <;> simp [h]

theorem midStep_fields (p : Params) (s : State) :
    (s.midStep p).pc = ((midChecked p s).interruptCheck p).pc ∧
      (s.midStep p).sp = ((midChecked p s).interruptCheck p).sp ∧
      (s.midStep p).ime = ((midChecked p s).interruptCheck p).ime ∧
      (s.midStep p).imePending = (midChecked p s).imePending ∧
      (s.midStep p).remaining = ((midChecked p s).interruptCheck p).remaining := by
  rcases midStep_cases p s with h | h <;> simp [h, Effects.interruptCheck_imePending]

/-- Before its check a mid-instruction step can only have ticked the timer. -/
theorem memSame_midChecked (p : Params) (s : State) :
    memSame [p.divAddr, p.timaAddr, p.ifAddr] s (midChecked p s) := by
  intro x hx
  rw [midChecked, State.readByte_applyIme]
  rcases midCounted_cases p s with h | h <;> rw [h]
  · rfl
  · exact memSame_timerTick { s with remaining := s.remaining - 1 } p x hx

/-- After its check a mid-instruction step can only tick the timer. -/
theorem memSame_midStep_of_checked (p : Params) (s : State) :
    memSame [p.divAddr, p.timaAddr, p.ifAddr] ((midChecked p s).interruptCheck p) (s.midStep p) := by
  rcases midStep_cases p s with h | h <;> rw [h]
  · exact fun _ _ => rfl
  · exact memSame_timerTick _ p

/-- A mid-instruction step leaves what an instruction computes: the registers and F, the opcode latch, Stopped and the
HALT bug. -/
theorem midStep_keeps (p : Params) (s : State) :
    regsSame [] s (s.midStep p) ∧ (s.midStep p).f = s.f ∧ (s.midStep p).opcode = s.opcode ∧
      (s.midStep p).opcodeAddr = s.opcodeAddr ∧ (s.midStep p).stopped = s.stopped ∧
      (s.midStep p).haltBug = s.haltBug := by
  have hcounted (r : Reg8) : ({ s with remaining := s.remaining - 1 } : State).getReg r = s.getReg r := by
    cases r <;> rfl
  cases ho : p.midOrder with
  | timerFirst => simp [State.midStep_timerFirst s ho, regsSame, State.getReg_timerTick, hcounted]
  | timerLast => simp [State.midStep_timerLast s ho, regsSame, State.getReg_timerTick, hcounted]

theorem midStep_halted (p : Params) {s : State} (h : s.halted = false) : (s.midStep p).halted = false := by
  cases ho : p.midOrder with
  | timerFirst =>
    rw [State.midStep_timerFirst s ho]
    exact interruptCheck_halted p (by simpa using h)
  | timerLast =>
    rw [State.midStep_timerLast s ho, State.timerTick_halted]
    exact interruptCheck_halted p (by simpa using h)

end Sys2Proof.Proofs.Cycle
end

section
/-! PROOF. The mid-instruction step: what it changes and leaves, and that the cycles in flight run out (`40_execution_cycle.md` R101, R102, R107, R108). -/

namespace Sys2Proof.Proofs.Cycle

open Sys2Proof Sys2Proof.Machine Sys2Proof.Proofs.Effects

/-! ## What a mid-instruction step changes -/

/-- Settles O44: the step is the check of the counted state, with one tick before or after; the check does nothing or
enters one source. -/
theorem midInstructionStepTouchesNoInstructionResult : Obligations.MidInstructionStepTouchesNoInstructionResult := by
  intro p s hs hh hr
  obtain ⟨hregs, hf, hop, haddr, hstop, hbug⟩ := midStep_keeps p s
  obtain ⟨hpc, hsp, hcheckedIme, -, hrem⟩ := midStep_fields p s
  obtain ⟨hpc', hsp', hrem'⟩ := midChecked_fields p s
  have hbefore := memSame_midChecked p s
  have hafter := memSame_midStep_of_checked p s
  refine ⟨_, stepWith_mid p hs hh hr, hregs, hf, hop, haddr, hstop.trans hs, midStep_halted p hh, hbug,
    midStep_total s p, ?_⟩
  rcases interruptCheck_effect (midChecked p s) p with he | ⟨i, hvec, hpush, hime, hlat, hentry⟩
  · left
    rw [he] at hpc hsp hrem hafter
    exact ⟨hpc.trans hpc', hsp.trans hsp', by omega, memSame_trans hbefore hafter⟩
  · right
    rw [hsp'] at hpush hentry
    refine ⟨i, hpc.trans hvec, hsp.trans hpush, hcheckedIme.trans hime, ?_, ?_⟩
    · rw [hrem, hlat, hrem', interruptLatency]
      omega
    · exact memSame_trans (memSame_mono (by simp) hbefore)
        (memSame_trans (memSame_mono (by simp) hentry) (memSame_mono (by simp) hafter))

/-! ## The cycles in flight run out -/

/-- The cycles in flight, with the latency of each interrupt entry that IME or the pending enable could still add. -/
def cyclesAhead (s : State) : Nat :=
  s.remaining + interruptLatency * s.ime.toNat + interruptLatency * s.imePending.toNat

@[simp] theorem cyclesAhead_timerTick (s : State) (p : Params) : cyclesAhead (s.timerTick p) = cyclesAhead s := by
  simp [cyclesAhead]

/-- The pending enable becomes IME: the entry it allows is counted still, once. -/
theorem cyclesAhead_applyIme_le (s : State) (mode : EiDelayMode) (p0 : Bool) (kind : StepKind) :
    cyclesAhead (s.applyIme mode p0 kind) ≤ cyclesAhead s := by
  rcases State.applyIme_cases s mode p0 kind with he | ⟨-, hp, -, he⟩ <;> rw [he]
  simp only [cyclesAhead, hp, Bool.toNat_true, Bool.toNat_false]
  omega

/-- An entry adds the latency that IME was counted for, and clears IME (`60_exceptions.md` R245). -/
@[simp] theorem cyclesAhead_interruptCheck (s : State) (p : Params) :
    cyclesAhead (s.interruptCheck p) = cyclesAhead s := by
  rcases State.interruptCheck_cases s p with ⟨he, -⟩ | ⟨i, hi, -, he⟩ <;> rw [he]
  simp [cyclesAhead, hi]

theorem cyclesAhead_midStep_lt (p : Params) {s : State} (hr : 0 < s.remaining) :
    cyclesAhead (s.midStep p) < cyclesAhead s := by
  have hcounted : cyclesAhead { s with remaining := s.remaining - 1 } < cyclesAhead s := by
    simp only [cyclesAhead]
    omega
  calc cyclesAhead (s.midStep p)
      = cyclesAhead (midChecked p s) := by rcases midStep_cases p s with h | h <;> simp [h]
    _ ≤ cyclesAhead (midCounted p s) := cyclesAhead_applyIme_le ..
    _ = cyclesAhead { s with remaining := s.remaining - 1 } := by rcases midCounted_cases p s with h | h <;> simp [h]
    _ < cyclesAhead s := hcounted

/-- A running core is ready to fetch after at most as many steps as there are cycles ahead of it. -/
theorem ready_within_cyclesAhead (p : Params) (m : Nat) (s : State) (hm : cyclesAhead s ≤ m) (hs : s.stopped = false)
    (hh : s.halted = false) : ∃ k ≤ m, ∃ t, runWith p k s = .next t ∧ t.phase = .readyToFetch := by
  induction m generalizing s with
  | zero =>
    have hr : s.remaining = 0 := by
      unfold cyclesAhead at hm
      omega
    exact ⟨0, Nat.le_refl 0, s, rfl, by simp [State.phase, hs, hh, hr]⟩
  | succ m ih =>
    rcases Nat.eq_zero_or_pos s.remaining with hr | hr
    · exact ⟨0, Nat.zero_le _, s, rfl, by simp [State.phase, hs, hh, hr]⟩
    · have hlt := cyclesAhead_midStep_lt p hr
      obtain ⟨-, -, -, -, hstop, -⟩ := midStep_keeps p s
      obtain ⟨k, hk, t, ht, hphase⟩ := ih (s.midStep p) (by omega) (hstop.trans hs) (midStep_halted p hh)
      refine ⟨k + 1, Nat.succ_le_succ hk, t, ?_, hphase⟩
      rw [runWith, stepWith_mid p hs hh hr]
      exact ht

/-- Settles O56: the invariant bounds the cycles ahead by `n + 39`. -/
theorem inFlightCyclesRunOutWithin63Steps : Obligations.InFlightCyclesRunOutWithin63Steps :=
  fun p n s hinv hs hh => ready_within_cyclesAhead p (n + 39) s hinv.cycles hs hh

end Sys2Proof.Proofs.Cycle
end
section
/-! PROOF. The delay of EI: the step in which the pending enable becomes IME, and what the interrupt check does with it there (`40_execution_cycle.md` R108, `47_misc_system.md` R223, R224). -/

namespace Sys2Proof.Proofs.Cycle

open Sys2Proof Sys2Proof.Machine Sys2Proof.Proofs.Effects

/-! ## The fetch step's finish -/

/-- Where the check enters nothing, a fetch step finishes with the cost, the transition and the tick alone: no source is
pending, or IME is clear and no enable takes effect. -/
theorem finishFetch_of_no_entry {p : Params} {u : State} {p0 : Bool} (i : Instr)
    (h : lowestSource (u.pending p) = none ∨ (u.ime = false ∧ (p0 = false ∨ u.imePending = false))) :
    u.finishFetch p p0 i = ((u.chargeCost p i).applyIme p.eiDelay p0 .fetch).timerTick p := by
  rw [State.finishFetch]
  rcases h with hnone | ⟨hime, hp⟩
  · rw [State.interruptCheck_of_none p (by rwa [State.pending_congr p (s := u) (by simp)])]
  · rw [applyIme_of_not_pending (s := u.chargeCost p i) _ _ hp,
      State.interruptCheck_of_ime_false (s := u.chargeCost p i) p hime]

/-- A fetch step that finds the enable pending, and whose instruction leaves it pending, sets IME for its check. -/
theorem finishFetch_of_pending {p : Params} {u : State} (i : Instr) (hp : u.imePending = true) :
    (u.finishFetch p true i).imePending = false ∧
      if u.pending p = 0 then (u.finishFetch p true i).ime = true
      else (u.finishFetch p true i).ime = false ∧ (u.finishFetch p true i).sp = u.sp - 2 := by
  have hset : (u.chargeCost p i).applyIme p.eiDelay true .fetch =
      { u.chargeCost p i with ime := true, imePending := false } :=
    applyIme_of_pending hp (by simp)
  have hcheck := interruptCheck_of_ime p (s := { u.chargeCost p i with ime := true, imePending := false }) rfl
  rw [State.finishFetch, hset, State.timerTick_imePending, interruptCheck_imePending, State.timerTick_ime,
    State.timerTick_sp]
  exact ⟨rfl, hcheck⟩

/-! ## A fetch step of DI and of EI -/

/-- The instruction at PC when its opcode byte alone fixes it. -/
theorem fetchedInstr_of_opcode {s : State} {op : Byte} {i : Instr} (hop : s.readByte s.pc = op)
    (hdec : ∀ b1 b2, decodeBytes op b1 b2 = i) : s.fetchedInstr = i := by
  rw [State.fetchedInstr, hop, hdec]

/-- The step of a ready core whose instruction answers `u`. -/
theorem stepWith_of_ready {p : Params} {s u : State} (hs : s.stopped = false) (hh : s.halted = false)
    (hr : s.remaining = 0) (hl : s.readByte s.pc ∉ p.illegalSet)
    (hu : execWith p s.fetchedInstr (s.afterFetch p.stopLength) = .next u) :
    stepWith p s = .next (u.finishFetch p s.imePending s.fetchedInstr) :=
  (stepWith_ready p hs hh hr).trans (fetchStep_of_next hl hu)

/-- The step of a ready core that neither applies an enable nor enters an interrupt. -/
theorem stepWith_of_ready_ime_clear {p : Params} {s u : State} (hs : s.stopped = false) (hh : s.halted = false)
    (hr : s.remaining = 0) (hl : s.readByte s.pc ∉ p.illegalSet)
    (hu : execWith p s.fetchedInstr (s.afterFetch p.stopLength) = .next u) (hime : u.ime = false)
    (hp : s.imePending = false ∨ u.imePending = false) :
    stepWith p s = .next ((u.chargeCost p s.fetchedInstr).timerTick p) := by
  rw [stepWith_of_ready hs hh hr hl hu, finishFetch_of_no_entry _ (.inr ⟨hime, hp⟩),
    applyIme_of_not_pending (s := u.chargeCost p s.fetchedInstr) _ _ hp]

theorem afterFetch_pc_of_one_byte {s : State} {n : StopLength} (h : opcodeLength n (s.readByte s.pc) = 1) :
    (s.afterFetch n).pc = if s.haltBug then s.pc else s.pc + 1 := by
  simp [State.afterFetch, h, State.operandAddr]

variable {p : Params} {s : State}

/-- EI's own step: no enable was pending before it, so none takes effect in it (R224). -/
theorem step_of_ei (hs : s.stopped = false) (hh : s.halted = false) (hr : s.remaining = 0)
    (hop : s.readByte s.pc = 0xFB) (hl : 0xFB ∉ p.illegalSet) (hime : s.ime = false) (hp : s.imePending = false) :
    ∃ t, stepWith p s = .next t ∧ t.ime = false ∧ t.imePending = true ∧ t.remaining = p.opcodeCost 0xFB - 1 := by
  have hi : s.fetchedInstr = .ei := fetchedInstr_of_opcode hop fun _ _ => rfl
  have hu : execWith p s.fetchedInstr (s.afterFetch p.stopLength) =
      .next { s.afterFetch p.stopLength with imePending := true } := by rw [hi]; rfl
  have hstep := stepWith_of_ready_ime_clear hs hh hr (hop ▸ hl) hu hime (.inl hp)
  rw [hi] at hstep
  refine ⟨_, hstep, by simpa using hime, by simp, ?_⟩
  rw [State.timerTick_remaining, State.chargeCost_remaining, State.afterFetch_remaining, hr, Nat.zero_add]
  rfl

/-- DI's step: DI clears IME and the pending enable, so that its check enters nothing (R223). -/
theorem step_of_di (hs : s.stopped = false) (hh : s.halted = false) (hr : s.remaining = 0)
    (hop : s.readByte s.pc = 0xF3) (hl : 0xF3 ∉ p.illegalSet) :
    ∃ t, stepWith p s = .next t ∧ t.ime = false ∧ t.imePending = false ∧ t.sp = s.sp ∧
      t.pc = if s.haltBug then s.pc else s.pc + 1 := by
  have hi : s.fetchedInstr = .di := fetchedInstr_of_opcode hop fun _ _ => rfl
  have hlen : opcodeLength p.stopLength (s.readByte s.pc) = 1 := by
    rw [hop]
    cases p.stopLength <;> decide
  have hu : execWith p s.fetchedInstr (s.afterFetch p.stopLength) =
      .next { s.afterFetch p.stopLength with ime := false, imePending := false } := by rw [hi]; rfl
  have hstep := stepWith_of_ready_ime_clear hs hh hr (hop ▸ hl) hu rfl (.inr rfl)
  refine ⟨_, hstep, by simp, by simp, by simp, ?_⟩
  rw [State.timerTick_pc]
  exact afterFetch_pc_of_one_byte hlen

/-! ## A mid-instruction step that finds the enable pending -/

theorem midCounted_pending (p : Params) (s : State) :
    (midCounted p s).pending p = (if p.midOrder = .timerFirst then s.timerTick p else s).pending p := by
  apply State.pending_congr
  unfold midCounted
  cases p.midOrder
  · exact State.timerTick_mem_congr p (s := s) rfl rfl
  · rfl

theorem midCounted_enable (p : Params) (s : State) :
    (midCounted p s).ime = s.ime ∧ (midCounted p s).imePending = s.imePending := by
  rcases midCounted_cases p s with h | h <;> simp [h]

/-- Under NEXT_STEP the mid-instruction step sets IME for its check (R108). -/
theorem midStep_of_pending_nextStep (hmode : p.eiDelay = .nextStep) (hp : s.imePending = true) :
    (s.midStep p).imePending = false ∧
      if (if p.midOrder = .timerFirst then s.timerTick p else s).pending p = 0 then (s.midStep p).ime = true
      else (s.midStep p).ime = false ∧ (s.midStep p).sp = s.sp - 2 := by
  obtain ⟨-, hsp, hime, hpend, -⟩ := midStep_fields p s
  obtain ⟨-, hsp', -⟩ := midChecked_fields p s
  obtain ⟨-, hpend'⟩ := midCounted_enable p s
  have hset : midChecked p s = { midCounted p s with ime := true, imePending := false } := by
    rw [midChecked, hp]
    exact applyIme_of_pending (hpend'.trans hp) (by simp [hmode])
  have hcheck := interruptCheck_of_ime p (s := midChecked p s) (by rw [hset])
  rw [hsp', State.pending_congr p (s := midCounted p s) (by rw [hset]), midCounted_pending] at hcheck
  rw [hsp, hime, hpend]
  exact ⟨by rw [hset], hcheck⟩

/-- Under AFTER_NEXT_INSTRUCTION the mid-instruction step leaves the enable and IME as they are (R108). -/
theorem midStep_of_pending_afterNextInstruction (hmode : p.eiDelay = .afterNextInstruction) (hp : s.imePending = true) :
    (s.midStep p).imePending = true ∧ (s.ime = false → (s.midStep p).ime = false) := by
  obtain ⟨-, -, hime, hpend, -⟩ := midStep_fields p s
  obtain ⟨hime', hpend'⟩ := midCounted_enable p s
  have hset : midChecked p s = midCounted p s := by
    rw [midChecked, hmode]
    exact applyIme_afterNextInstruction_mid ..
  rw [hpend, hime, hset]
  refine ⟨hpend'.trans hp, fun hi => ?_⟩
  rw [State.interruptCheck_of_ime_false p (hime'.trans hi), hime', hi]

/-- Settles O47: EI's own step finds no enable pending; a mid-instruction step applies one under NEXT_STEP only, a fetch
step under both modes; DI leaves none to apply. -/
theorem enableTakesEffectOneStepAfterEI : Obligations.EnableTakesEffectOneStepAfterEI := by
  refine fun p s hs hh => ⟨step_of_ei hs hh, ?_, ?_, step_of_di hs hh⟩
  · intro hr hp
    exact ⟨_, stepWith_mid p hs hh hr, fun hmode => midStep_of_pending_nextStep hmode hp,
      fun hmode => midStep_of_pending_afterNextInstruction hmode hp⟩
  · intro hr hp hl u hu hup
    have hstep := stepWith_of_ready hs hh hr hl hu
    rw [hp] at hstep
    exact ⟨_, hstep, finishFetch_of_pending _ hup⟩

end Sys2Proof.Proofs.Cycle
end
section
/-! PROOF. The fetch: what it latches and where it leaves PC, and that a ready core's step is the decoded instruction between the fetch and the finishing phases (`40_execution_cycle.md` R102 to R107). -/

namespace Sys2Proof.Proofs.Cycle

open Sys2Proof Sys2Proof.Machine Sys2Proof.Proofs.Scope Sys2Proof.Proofs.Rows Sys2Proof.Proofs.Encoding

/-! ## The handler of 0xCB -/

/-- The CB row decoded from `cb` does what the handler of 0xCB runs for `cb` (R106). -/
theorem exec_decodeCb (cb : Byte) (s : State) : exec (decodeCb cb) s = .next (s.executeCb cb) := by
  unfold decodeCb State.executeCb
  generalize fieldX cb = x
  match x with
  | 0 => exact exec_rotInstr ..
  | 1 => exact exec_bitInstr ..
  | 2 => exact exec_resInstr ..
  | 3 => exact exec_setInstr ..

theorem defaultCbCost_eq : ∀ cb : Byte, defaultCbCost cb = if cb.toNat % 8 = 6 then 8 else 4 := by
  decide +kernel

/-- The cost of the instruction at an opcode byte, for 0xCB with the cost of the byte after it (R106, log entry 12). -/
theorem costOf_decodeBytes (p : Params) (op b1 b2 : Byte) :
    costOf p (decodeBytes op b1 b2) = p.opcodeCost op + if op = 0xCB then p.cbCost b1 else 0 := by
  unfold costOf
  rw [encode_decodeBytes]
  obtain ⟨hpos, hthree⟩ := opcodeLength_bounds op
  rcases (by omega : opcodeLength .two op = 1 ∨ opcodeLength .two op = 2 ∨ opcodeLength .two op = 3) with hl | hl | hl
  · have hcb : op ≠ 0xCB := by
      rintro rfl
      exact absurd hl (by decide)
    rw [hl, if_neg hcb]
    rfl
  · rw [hl]; rfl
  · rw [hl]; rfl

/-- Settles O36: the handler and the CB row both run `executeCb`, and the handler adds the CB byte's cost. -/
theorem prefixHandlerAgreesWithCbRows : Obligations.PrefixHandlerAgreesWithCbRows := by
  refine ⟨⟨rfl, rfl⟩, fun p s => ⟨decodeCb (s.readByte s.pc), _, rfl, exec_decodeCb .., rfl, ?_, ?_⟩⟩
  · exact costOf_decodeBytes p 0xCB (s.readByte s.pc) 0
  · rw [← defaultCbCost_eq]
    rfl

/-! ## The fetch -/

theorem length_encode_decodeBytes (op b1 b2 : Byte) :
    (encode (decodeBytes op b1 b2)).length = opcodeLength .two op := by
  obtain ⟨-, hlen, -⟩ := encodeOfDecodeIsTheBytes op b1 b2
  exact hlen

/-- The fetch moves PC past as many bytes as the encoding has, one for STOP under STOP_LENGTH = 1 (R70, R222). -/
theorem opcodeLength_fetchedInstr (n : StopLength) (s : State) : opcodeLength n (s.readByte s.pc) =
    if n = .one ∧ s.readByte s.pc = 0x10 then 1 else (encode s.fetchedInstr).length := by
  rw [State.fetchedInstr, length_encode_decodeBytes]
  cases n with
  | one => simp [opcodeLength_one]
  | two => simp

/-- Each byte of the fetched instruction's encoding is the byte the fetch read for it, and no byte past its end is. -/
theorem getElem?_encode_fetchedInstr (s : State) (k : Nat) :
    (encode s.fetchedInstr)[k]? = some (if k = 0 then s.readByte s.pc
      else s.readByte (s.operandAddr + BitVec.ofNat 16 (k - 1))) ∨ (encode s.fetchedInstr).length ≤ k := by
  rcases Nat.lt_or_ge k (encode s.fetchedInstr).length with hk | hk
  · left
    rw [State.fetchedInstr, length_encode_decodeBytes] at hk
    obtain ⟨-, hthree⟩ := opcodeLength_bounds (s.readByte s.pc)
    rw [State.fetchedInstr, encode_decodeBytes, List.getElem?_take_of_lt hk]
    match k with
    | 0 => rfl
    | 1 => simp
    | 2 => simp
    | k + 3 => omega
  · exact .inr hk

/-- Settles O38: the fetch writes the latch, the HALT bug and PC, and PC stands past the bytes of the encoding. -/
theorem fetchLatchesOpcodeAndMovesPastInstruction : Obligations.FetchLatchesOpcodeAndMovesPastInstruction := by
  intro n s t from_ length
  have hpc : t.pc = from_ + BitVec.ofNat 16 (length - 1) := by
    show _ + BitVec.ofNat 16 (opcodeLength n (s.readByte s.pc) - 1) = _
    rw [opcodeLength_fetchedInstr]
    rfl
  have hregs : regsSame [] s t := fun r _ => State.getReg_afterFetch s n r
  exact ⟨rfl, rfl, rfl, rfl, hpc, rfl, getElem?_encode_fetchedInstr s, hregs, rfl, fun _ _ => rfl, rfl, rfl,
    rfl, rfl, rfl, rfl, rfl, rfl, rfl, rfl⟩

/-! ## The step of a ready core -/

/-- A step that answers a next state fetched none of the eleven bytes without an operation. -/
theorem not_mem_illegalSet_of_execWith {p : Params} {s u : State} (hl : s.readByte s.pc ∉ p.illegalSet)
    (hu : execWith p s.fetchedInstr (s.afterFetch p.stopLength) = .next u) : s.readByte s.pc ∉ illegalSet := by
  intro hi
  have hnext := fetchStep_of_next hl hu
  rw [fetchStep_of_illegalByte (.inr hi)] at hnext
  cases hnext

/-- Settles O37: the decoder reads the fetched instruction from the three bytes, and the fetch step runs it. -/
theorem stepRunsTheDecodedInstruction : Obligations.StepRunsTheDecodedInstruction := by
  rintro p s i ⟨hs, hh, hr⟩ hwf hdec
  obtain ⟨hself, hentry⟩ := Bool.and_eq_true_iff.mp hwf
  obtain rfl : s.fetchedInstr = i := Except.ok.inj hdec
  have hlegal : s.readByte s.pc ∉ illegalSet := by
    intro hi
    obtain ⟨hrow, -⟩ := decodeBytes_illegal hi (s.readByte s.operandAddr) (s.readByte (s.operandAddr + 1))
    exact Bool.false_ne_true (hrow.symm.trans hentry)
  have hprefix : s.fetchedInstr ≠ .prefixCb := by
    intro hc
    rw [hc] at hself
    cases hself
  refine ⟨fun hl => ⟨?_, ?_⟩, ?_, ?_, ?_⟩
  · exact fun u hu => (stepWith_ready p hs hh hr).trans (fetchStep_of_next hl hu)
  · exact fun r hf => (stepWith_ready p hs hh hr).trans (fetchStep_of_fault hl hf)
  · intro u hu
    rw [← execWith_engineParams] at hu
    exact (stepWith_ready engineParams hs hh hr).trans (fetchStep_of_next hlegal hu)
  · intro r hf
    rw [← execWith_engineParams] at hf
    exact (stepWith_ready engineParams hs hh hr).trans (fetchStep_of_fault hlegal hf)
  · exact fun hhalt u => execWith_eq_exec p hhalt hprefix u

end Sys2Proof.Proofs.Cycle
end
section
/-! PROOF. What a fetch step charges: the base cost, the CB cost, and the extra of a taken condition, less the cycle the step itself takes (`40_execution_cycle.md` R106, R107; `46_control.md` R200). -/

namespace Sys2Proof.Proofs.Cycle

open Sys2Proof Sys2Proof.Machine Sys2Proof.Proofs.Effects Sys2Proof.Proofs.Rows

/-! ## The extra of an instruction -/

/-- At the default CYCLE_COST every byte with an operation costs 4 at least. -/
theorem four_le_opcodeCost : ∀ op : Byte, op ∉ illegalSet → 4 ≤ engineParams.opcodeCost op := by
  decide +kernel

theorem execWith_jumpCondInstr (p : Params) (cc : Cond) (n : Word) (s : State) :
    execWith p (jumpCondInstr cc n) s = jumpIf cc n s := by cases cc <;> rfl

theorem execWith_jumpRelCondInstr (p : Params) (cc : Cond) (e : Byte) (s : State) :
    execWith p (jumpRelCondInstr cc e) s = jumpIf cc (s.relativeTarget e) s := by cases cc <;> rfl

theorem execWith_callCondInstr (p : Params) (cc : Cond) (n : Word) (s : State) :
    execWith p (callCondInstr cc n) s = callIf cc n s := by cases cc <;> rfl

theorem execWith_retCondInstr (p : Params) (cc : Cond) (s : State) :
    execWith p (retCondInstr cc) s = returnIf cc s := by cases cc <;> rfl

variable {p : Params} {s u : State} {cc : Cond}

theorem remaining_of_jumpIf {x : Word} (h : jumpIf cc x s = .next u) :
    u.remaining = s.remaining + if s.cond cc = true then 4 else 0 := by
  unfold jumpIf at h
  split at h <;> cases h <;> simp [*, jumpTakenExtra]

theorem remaining_of_callIf {x : Word} (h : callIf cc x s = .next u) :
    u.remaining = s.remaining + if s.cond cc = true then 12 else 0 := by
  unfold callIf at h
  split at h <;> cases h <;> simp [*, callTakenExtra]

theorem remaining_of_returnIf (h : returnIf cc s = .next u) :
    u.remaining = s.remaining + if s.cond cc = true then 12 else 0 := by
  unfold returnIf at h
  split at h <;> cases h <;> simp [*, callTakenExtra]

/-- A conditional jump's extra (R200, R202, R205). -/
theorem remaining_of_conditional_jump {i : Instr} (h : execWith p i s = .next u)
    (hi : (∃ n, i = jumpCondInstr cc n) ∨ ∃ e, i = jumpRelCondInstr cc e) :
    u.remaining = s.remaining + if s.cond cc = true then 4 else 0 := by
  rcases hi with ⟨n, rfl⟩ | ⟨e, rfl⟩
  · exact remaining_of_jumpIf (execWith_jumpCondInstr p cc n s ▸ h)
  · exact remaining_of_jumpIf (execWith_jumpRelCondInstr p cc e s ▸ h)

/-- A conditional call's or return's extra (R200, R207, R209). -/
theorem remaining_of_conditional_call {i : Instr} (h : execWith p i s = .next u)
    (hi : (∃ n, i = callCondInstr cc n) ∨ i = retCondInstr cc) :
    u.remaining = s.remaining + if s.cond cc = true then 12 else 0 := by
  rcases hi with ⟨n, rfl⟩ | rfl
  · exact remaining_of_callIf (execWith_callCondInstr p cc n s ▸ h)
  · exact remaining_of_returnIf (execWith_retCondInstr p cc s ▸ h)

/-- Every other instruction but `prefixCb`, which no step decodes, leaves the counter. -/
theorem remaining_of_unconditional {i : Instr} (h : Runs p s i u) (hself : i.selfContained = true)
    (hi : ∀ cc, (∀ n, i ≠ jumpCondInstr cc n) ∧ (∀ e, i ≠ jumpRelCondInstr cc e) ∧ (∀ n, i ≠ callCondInstr cc n) ∧
      i ≠ retCondInstr cc) : u.remaining = s.remaining := by
  cases h with
  | jumpTaken cc n =>
    obtain ⟨hjump, -⟩ := hi cc
    exact absurd rfl (hjump n)
  | relativeTaken cc e =>
    obtain ⟨-, hrel, -⟩ := hi cc
    exact absurd rfl (hrel e)
  | callTaken cc n =>
    obtain ⟨-, -, hcall, -⟩ := hi cc
    exact absurd rfl (hcall n)
  | returnTaken cc =>
    obtain ⟨-, -, -, hret⟩ := hi cc
    exact absurd rfl hret
  | prefixCb => exact absurd hself Bool.false_ne_true
  | alu o | aluImm o => cases o <;> rfl
  | _ => simp [State.rotate, State.bitTest, State.bitReset, State.bitSet, State.returnFromInterrupt]

/-! ## The charge -/

theorem finishFetch_remaining_of_no_entry {p0 : Bool} (i : Instr)
    (h : lowestSource (u.pending p) = none ∨ (u.ime = false ∧ (p0 = false ∨ u.imePending = false))) :
    (u.finishFetch p p0 i).remaining = u.remaining + costOf p i - 1 := by
  rw [finishFetch_of_no_entry i h, State.timerTick_remaining, State.applyIme_remaining, State.chargeCost_remaining]

theorem cond_afterFetch (s : State) (n : StopLength) (cc : Cond) : (s.afterFetch n).cond cc = s.cond cc := by
  cases cc <;> rfl

/-- Settles O49: the finish adds the cost less one to what the instruction left, which is the extra of a taken condition
or nothing, since a ready core starts at 0. -/
theorem fetchStepChargesCostLessOne : Obligations.FetchStepChargesCostLessOne := by
  rintro p s u ⟨hs, hh, hr⟩ hl hu
  have hrun := runs_of_execWith hu
  have hstart (x : Nat) : (s.afterFetch p.stopLength).remaining + x = x := by
    rw [State.afterFetch_remaining, hr, Nat.zero_add]
  refine ⟨?_, costOf_decodeBytes .., ?_, ?_, ?_, ?_⟩
  · intro hcost hno
    refine ⟨_, stepWith_of_ready hs hh hr hl hu, ?_⟩
    rw [finishFetch_remaining_of_no_entry _ hno]
    omega
  · rw [State.fetchedInstr, costOf_decodeBytes]
    exact Nat.le_add_right_of_le (four_le_opcodeCost _ (not_mem_illegalSet_of_execWith hl hu))
  · intro cc hi
    rw [remaining_of_conditional_jump hu hi, hstart, cond_afterFetch]
  · intro cc hi
    rw [remaining_of_conditional_call hu hi, hstart, cond_afterFetch]
  · intro hi
    exact (remaining_of_unconditional hrun (selfContained_decodeBytes ..) hi).trans hr

end Sys2Proof.Proofs.Cycle
end
section
/-! PROOF. The 8-bit loads: each moves one byte between its operands, or between A and the address its rule gives, and leaves the rest; the stepping forms move HL by one besides (`41_load8.md` R120 to R136). -/

namespace Sys2Proof.Proofs.Load8

open Sys2Proof Sys2Proof.Machine Sys2Proof.Proofs.Rows

/-! ## Operand to operand, immediate to operand -/

/-- The one pair of operands left out names HALT's byte (R122, `47_misc_system.md` R221). -/
theorem exec_loadInstr_of_not_both_memHL {d src : Operand8} (h : ¬(d = .memHL ∧ src = .memHL)) (s : State) :
    exec (loadInstr d src) s = loadOperand d src s := by
  cases d with
  | reg r => exact exec_loadInstr_reg r src s
  | memHL =>
    cases src with
    | reg r => exact exec_loadInstr_memHL_reg r s
    | memHL => exact absurd ⟨rfl, rfl⟩ h

theorem costOf_loadInstr_of_not_both_memHL {d src : Operand8} (h : ¬(d = .memHL ∧ src = .memHL)) :
    costOf engineParams (loadInstr d src) = 4 + operandSurcharge d + operandSurcharge src := by
  cases d with
  | reg r => cases r <;> rcases src with ⟨⟨⟩⟩ | _ <;> rfl
  | memHL =>
    cases src with
    | reg r => cases r <;> rfl
    | memHL => exact absurd ⟨rfl, rfl⟩ h

theorem costOf_loadImmInstr (d : Operand8) (n : Byte) :
    costOf engineParams (loadImmInstr d n) = 8 + operandSurcharge d := by
  rcases d with ⟨⟨⟩⟩ | _ <;> rfl

/-- Settles O1: the load writes the destination operand with the source's old byte, and nothing else. -/
theorem loadOperandMovesOneByte : Obligations.LoadOperandMovesOneByte := fun d src s h =>
  ⟨⟨encode_loadInstr d src, costOf_loadInstr_of_not_both_memHL h⟩, _, exec_loadInstr_of_not_both_memHL h s,
    storesTo_writeOperand d (s.readOperand src) s, writeOperand_keeps d (s.readOperand src) s⟩

/-- Settles O2: the load writes the destination operand with the immediate, and nothing else. -/
theorem loadImmediateStoresTheByte : Obligations.LoadImmediateStoresTheByte := fun d n s =>
  ⟨⟨encode_loadImmInstr d n, costOf_loadImmInstr d n⟩, _, exec_loadImmInstr d n s,
    storesTo_writeOperand d n s, writeOperand_keeps d n s⟩

/-! ## A and one address -/

/-- The high page begins at 0xFF00 (`30_encoding.md` R72): its low byte is zero, so the bitwise or is a sum. -/
theorem highPage_eq_ofNat (n : Byte) : highPage n = BitVec.ofNat 16 (0xFF00 + n.toNat) := by
  have hor : 0xFF00 + n.toNat = 0xFF00 ||| n.toNat := Nat.shiftLeft_add_eq_or_of_lt n.isLt 0xFF
  rw [hor, BitVec.ofNat_or, BitVec.ofNat_toNat]
  rfl

/-- A load of A is an operand write of A. -/
theorem loadsA_of_exec {i : Instr} {x : Word} {s : State} (h : exec i s = loadAccumulator x s) : loadsA i x s := by
  obtain ⟨ha, hregs, hmem⟩ := storesTo_writeOperand (.reg .a) (s.readByte x) s
  exact ⟨_, h, ha, hregs, hmem, writeOperand_keeps (.reg .a) (s.readByte x) s⟩

/-- `MemWrite(x, 1, v)` writes no other byte (`20_memory.md` R52). -/
theorem memSame_writeByte (s : State) (x : Word) (v : Byte) : memSame [x] s (s.writeByte x v) := fun _ hy =>
  State.readByte_writeByte_ne s v (List.ne_of_not_mem_cons hy)

theorem storesA_of_exec {i : Instr} {x : Word} {s : State} (h : exec i s = storeAccumulator x s) : storesA i x s := by
  refine ⟨_, h, State.readByte_writeByte_self s x s.a, fun r _ => State.getReg_writeByte s x s.a r,
    memSame_writeByte s x s.a, State.writeByte_readF s x s.a, rfl, ?_⟩
  simp [controlSame, engineSame]

/-- Settles O3: the five loads of A differ in the address only. -/
theorem accumulatorLoadsReadTheirAddress : Obligations.AccumulatorLoadsReadTheirAddress := by
  intro s n m
  rw [← highPage_eq_ofNat, ← highPage_eq_ofNat]
  exact ⟨⟨⟨rfl, rfl⟩, loadsA_of_exec rfl⟩, ⟨⟨rfl, rfl⟩, loadsA_of_exec rfl⟩, ⟨⟨rfl, rfl⟩, loadsA_of_exec rfl⟩,
    ⟨⟨rfl, rfl⟩, loadsA_of_exec rfl⟩, ⟨rfl, rfl⟩, loadsA_of_exec rfl⟩

/-- Settles O4: the five stores of A differ in the address only. -/
theorem accumulatorStoresWriteTheirAddress : Obligations.AccumulatorStoresWriteTheirAddress := by
  intro s n m
  rw [← highPage_eq_ofNat, ← highPage_eq_ofNat]
  exact ⟨⟨⟨rfl, rfl⟩, storesA_of_exec rfl⟩, ⟨⟨rfl, rfl⟩, storesA_of_exec rfl⟩, ⟨⟨rfl, rfl⟩, storesA_of_exec rfl⟩,
    ⟨⟨rfl, rfl⟩, storesA_of_exec rfl⟩, ⟨rfl, rfl⟩, storesA_of_exec rfl⟩

/-! ## The byte at HL, with a step of HL -/

theorem getReg_setHL_of_ne {r : Reg8} (hh : r ≠ .h) (hl : r ≠ .l) (s : State) (v : Word) :
    (s.setHL v).getReg r = s.getReg r := by
  cases r with
  | h => exact absurd rfl hh
  | l => exact absurd rfl hl
  | _ => rfl

/-- HL stepped by a word, on exact numbers: -1 is 65535. -/
theorem setHL_add_hl_toNat (s t : State) (delta : Word) :
    (t.setHL (s.hl + delta)).hl.toNat = (s.hl.toNat + delta.toNat) % 65536 := by
  rw [State.setHL_hl, BitVec.toNat_add]

/-- The stepping stores, for either step (R133, R135). -/
theorem next_of_storeAccumulatorStepping {i : Instr} {delta : Word} {s : State}
    (h : exec i s = storeAccumulatorStepping delta s) :
    ∃ t, exec i s = .next t ∧ t.readByte s.hl = s.a ∧ t.hl.toNat = (s.hl.toNat + delta.toNat) % 65536 ∧
      regsSame [.h, .l] s t ∧ memSame [s.hl] s t ∧ flagsSame s t ∧ t.sp = s.sp ∧ controlSame s t := by
  refine ⟨_, h, State.readByte_writeByte_self s s.hl s.a, setHL_add_hl_toNat s _ delta, ?_,
    memSame_writeByte s s.hl s.a, rfl, rfl, ?_⟩
  · intro r hr
    obtain ⟨hh, hl⟩ : r ≠ .h ∧ r ≠ .l := by simpa using hr
    rw [getReg_setHL_of_ne hh hl, State.getReg_writeByte]
  · simp [controlSame, engineSame]

/-- The stepping loads, for either step (R134, R136). -/
theorem next_of_loadAccumulatorStepping {i : Instr} {delta : Word} {s : State}
    (h : exec i s = loadAccumulatorStepping delta s) :
    ∃ t, exec i s = .next t ∧ t.a = s.readByte s.hl ∧ t.hl.toNat = (s.hl.toNat + delta.toNat) % 65536 ∧
      regsSame [.a, .h, .l] s t ∧ memSame [] s t ∧ flagsSame s t ∧ t.sp = s.sp ∧ controlSame s t := by
  refine ⟨_, h, rfl, setHL_add_hl_toNat s _ delta, ?_, fun _ _ => rfl, rfl, rfl, ?_⟩
  · intro r hr
    obtain ⟨ha, hh, hl⟩ : r ≠ .a ∧ r ≠ .h ∧ r ≠ .l := by simpa using hr
    rw [getReg_setHL_of_ne hh hl, State.getReg_setReg, if_neg ha]
  · simp [controlSame, engineSame]

/-- Settles O5: the four forms are the stepping store and the stepping load, each with the steps 1 and -1. -/
theorem steppingLoadsMoveHLByOne : Obligations.SteppingLoadsMoveHLByOne := fun _ =>
  ⟨⟨⟨rfl, rfl⟩, next_of_storeAccumulatorStepping (delta := 1) rfl⟩,
    ⟨⟨rfl, rfl⟩, next_of_loadAccumulatorStepping (delta := 1) rfl⟩,
    ⟨⟨rfl, rfl⟩, next_of_storeAccumulatorStepping (delta := -1) rfl⟩,
    ⟨rfl, rfl⟩, next_of_loadAccumulatorStepping (delta := -1) rfl⟩

end Sys2Proof.Proofs.Load8
end
section
/-! PROOF. The 8-bit arithmetic and logic: the eight accumulator operations in their three source forms, INC and DEC, DAA, and CPL, SCF and CCF, each with its result, its flags and what it leaves (`42_alu8.md` R140 to R158). -/

namespace Sys2Proof.Proofs.Alu8

open Sys2Proof Sys2Proof.Machine Sys2Proof.Proofs.Rows

/-! ## The three source forms -/

theorem hasRow_aluInstr (o : AluOp) (x : Operand8) :
    hasRow (aluInstr o x) [BitVec.ofNat 8 (0x80 + 8 * aluCode o + operandCode x)] (4 + operandSurcharge x) :=
  ⟨encode_aluInstr o x, by cases o <;> rcases x with ⟨⟨⟩⟩ | _ <;> rfl⟩

theorem hasRow_aluImmInstr (o : AluOp) (n : Byte) :
    hasRow (aluImmInstr o n) [BitVec.ofNat 8 (0xC6 + 8 * aluCode o), n] 8 :=
  ⟨encode_aluImmInstr o n, by cases o <;> rfl⟩

/-- Every form of an operation accumulates its source byte. -/
theorem exec_of_isAluForm {o : AluOp} {s : State} {i : Instr} {src : Byte} (h : isAluForm o s i src) :
    exec i s = .next (s.accumulate o src) := by
  rcases h with ⟨x, rfl, rfl, -⟩ | ⟨rfl, -⟩
  · exact exec_aluInstr o x s
  · exact exec_aluImmInstr o src s

/-- Settles O6: each form has its row, and runs by accumulating the byte it reads. -/
theorem accumulatorOperationsHaveThreeSourceForms : Obligations.AccumulatorOperationsHaveThreeSourceForms := by
  intro o x n s
  have hoperand : isAluForm o s (aluInstr o x) (s.readOperand x) := .inl ⟨x, rfl, rfl, hasRow_aluInstr o x⟩
  have himm : isAluForm o s (aluImmInstr o n) n := .inr ⟨rfl, hasRow_aluImmInstr o n⟩
  refine ⟨hoperand, himm, ?_, _, exec_of_isAluForm hoperand⟩
  rintro rfl
  exact (exec_of_isAluForm hoperand).trans (exec_of_isAluForm himm).symm

/-! ## What an accumulator operation writes -/

theorem accumulate_a (s : State) (o : AluOp) (src : Byte) :
    (s.accumulate o src).a = if o = .cp then s.a else (aluResult o s.a src s.flagC).value := by
  cases o <;> rfl

theorem flagsAre_accumulate (s : State) (o : AluOp) (src : Byte) :
    flagsAre (s.accumulate o src) (aluResult o s.a src s.flagC).flags.z (aluResult o s.a src s.flagC).flags.n
      (aluResult o s.a src s.flagC).flags.h (aluResult o s.a src s.flagC).flags.c := by
  cases o <;> exact flagsAre_setFlags ..

/-- ADD and ADC are `Add8`; the carry-in is C for ADC and 0 for ADD (R143, R144). -/
theorem aluResult_of_add_or_adc {o : AluOp} (ho : o = .add ∨ o = .adc) (a src : Byte) (carry : Bool) :
    ∃ cin : Bool, cin.toNat = (if o = .adc then carry.toNat else 0) ∧ aluResult o a src carry = add8 a src cin := by
  rcases ho with rfl | rfl
  · exact ⟨false, rfl, rfl⟩
  · exact ⟨carry, rfl, rfl⟩

/-- SUB, SBC and CP are `Sub8`; the borrow-in is C for SBC and 0 for SUB and CP (R145, R146, R150). -/
theorem aluResult_of_sub_or_sbc_or_cp {o : AluOp} (ho : o = .sub ∨ o = .sbc ∨ o = .cp) (a src : Byte)
    (carry : Bool) :
    ∃ cin : Bool, cin.toNat = (if o = .sbc then carry.toNat else 0) ∧ aluResult o a src carry = sub8 a src cin := by
  rcases ho with rfl | rfl | rfl
  · exact ⟨false, rfl, rfl⟩
  · exact ⟨carry, rfl, rfl⟩
  · exact ⟨false, rfl, rfl⟩

/-! ## Sums, differences and bitwise results -/

/-- Settles O7: both operations accumulate `Add8`, whose fields are the sum and its carries. -/
theorem addAndAdcComputeSumAndFlags : Obligations.AddAndAdcComputeSumAndFlags := by
  intro o i src s ho hform
  obtain ⟨cin, hcin, hres⟩ := aluResult_of_add_or_adc ho s.a src s.flagC
  have hne : o ≠ .cp := by rcases ho with rfl | rfl <;> decide
  have ha : (s.accumulate o src).a = (add8 s.a src cin).value := by rw [accumulate_a, if_neg hne, hres]
  have hflags := flagsAre_accumulate s o src
  rw [hres] at hflags
  rw [← hcin]
  refine ⟨_, exec_of_isAluForm hform, ?_, ?_, accumulate_keeps s o src⟩
  · rw [ha]
    exact BitVec.toNat_ofNat ..
  · rw [ha]
    exact hflags

/-- `Sub8` on natural numbers: 512 keeps the difference from going below zero, and a borrow is a comparison (R142). -/
theorem sub8_eq (a b : Byte) (cin : Bool) :
    sub8 a b cin =
      { value := BitVec.ofNat 8 (a.toNat + 512 - b.toNat - cin.toNat)
        flags :=
          { z := decide ((a.toNat + 512 - b.toNat - cin.toNat) % 256 = 0)
            n := true
            h := decide (a.toNat % 16 < b.toNat % 16 + cin.toNat)
            c := decide (a.toNat < b.toNat + cin.toNat) } } := by
  have hb := b.isLt
  have hcin := Bool.toNat_le cin
  have hvalue : BitVec.ofInt 8 ((a.toNat : Int) - b.toNat - cin.toNat) =
      BitVec.ofNat 8 (a.toNat + 512 - b.toNat - cin.toNat) := by
    apply BitVec.eq_of_toNat_eq
    rw [BitVec.toNat_ofInt, BitVec.toNat_ofNat]
    omega
  simp only [sub8, hvalue, AluResult.mk.injEq, FlagBits.mk.injEq, decide_eq_decide, true_and]
  refine ⟨?_, ?_, ?_⟩
  · simp [BitVec.toNat_eq]
  · omega
  · omega

/-- Settles O8: the three operations take their flags from `Sub8`, and SUB and SBC their result. -/
theorem subSbcAndCpComputeDifferenceAndFlags : Obligations.SubSbcAndCpComputeDifferenceAndFlags := by
  intro o i src s ho hform
  obtain ⟨cin, hcin, hres⟩ := aluResult_of_sub_or_sbc_or_cp ho s.a src s.flagC
  rw [sub8_eq] at hres
  have hflags := flagsAre_accumulate s o src
  rw [hres] at hflags
  rw [← hcin]
  refine ⟨_, exec_of_isAluForm hform, ?_, hflags, accumulate_keeps s o src⟩
  rw [accumulate_a, hres, apply_ite BitVec.toNat]
  exact congrArg _ (BitVec.toNat_ofNat ..)

/-- Settles O9: the three operations act bit by bit, and differ in H. -/
theorem andXorOrComputeBitwiseResultAndFlags : Obligations.AndXorOrComputeBitwiseResultAndFlags := by
  intro o i src s ho hform
  refine ⟨_, exec_of_isAluForm hform, ?_, ?_, accumulate_keeps s o src⟩
  · intro k _
    rw [accumulate_a]
    rcases ho with rfl | rfl | rfl
    · exact BitVec.getLsbD_and
    · exact BitVec.getLsbD_xor
    · exact BitVec.getLsbD_or
  · rw [accumulate_a]
    have hflags := flagsAre_accumulate s o src
    rcases ho with rfl | rfl | rfl <;> exact hflags

/-! ## INC and DEC -/

theorem hasRow_incInstr (d : Operand8) :
    hasRow (incInstr d) [BitVec.ofNat 8 (0x04 + 8 * operandCode d)] (4 + operandSurcharge d) :=
  ⟨encode_incInstr d, by rcases d with ⟨⟨⟩⟩ | _ <;> rfl⟩

theorem hasRow_decInstr (d : Operand8) :
    hasRow (decInstr d) [BitVec.ofNat 8 (0x05 + 8 * operandCode d)] (4 + operandSurcharge d) :=
  ⟨encode_decInstr d, by rcases d with ⟨⟨⟩⟩ | _ <;> rfl⟩

/-- INC on natural numbers; the result is zero for the one value 0xFF (R151). -/
theorem inc8_eq (v : Byte) (carry : Bool) :
    inc8 v carry =
      { value := BitVec.ofNat 8 (v.toNat + 1)
        flags := { z := decide (v = 0xFF), n := false, h := decide (v.toNat % 16 = 15), c := carry } } := by
  have hvalue : v + 1 = BitVec.ofNat 8 (v.toNat + 1) := by bv_omega
  have hzero : v + 1 = 0 ↔ v = 0xFF := by bv_omega
  simp only [inc8, hzero]
  rw [hvalue]

/-- DEC on natural numbers, 255 standing for -1; the result is zero for the one value 0x01 (R153). -/
theorem dec8_eq (v : Byte) (carry : Bool) :
    dec8 v carry =
      { value := BitVec.ofNat 8 (v.toNat + 255)
        flags := { z := decide (v = 0x01), n := true, h := decide (v.toNat % 16 = 0), c := carry } } := by
  have hvalue : v - 1 = BitVec.ofNat 8 (v.toNat + 255) := by bv_omega
  have hzero : v - 1 = 0 ↔ v = 0x01 := by bv_omega
  simp only [dec8, hzero]
  rw [hvalue]

/-- An instruction that writes its operand with four flags does that and nothing else. -/
theorem next_of_writeOperand_setFlags {i : Instr} {d : Operand8} {s : State} {v : Byte} {fl : FlagBits}
    (h : exec i s = .next ((s.writeOperand d v).setFlags fl)) :
    ∃ t, exec i s = .next t ∧ storesTo d v s t ∧ flagsAre t fl.z fl.n fl.h fl.c ∧ t.sp = s.sp ∧ controlSame s t :=
  ⟨_, h, storesTo_writeOperand_setFlags d v fl s, flagsAre_setFlags _ fl, writeOperand_setFlags_keeps d v fl s⟩

/-- Settles O10: each writes its operand and the flags with its result on natural numbers. -/
theorem incAndDecStepTheOperand : Obligations.IncAndDecStepTheOperand := by
  intro d s
  have hinc := exec_incInstr d s
  have hdec := exec_decInstr d s
  rw [incOperand, inc8_eq] at hinc
  rw [decOperand, dec8_eq] at hdec
  exact ⟨⟨hasRow_incInstr d, next_of_writeOperand_setFlags hinc⟩,
    hasRow_decInstr d, next_of_writeOperand_setFlags hdec⟩

/-! ## DAA -/

/-- An instruction that writes A with four flags does that and nothing else. -/
theorem next_of_setReg_a_setFlags {i : Instr} {s : State} {v : Byte} {fl : FlagBits}
    (h : exec i s = .next ((s.setReg .a v).setFlags fl)) :
    ∃ t, exec i s = .next t ∧ t.a = v ∧ flagsAre t fl.z fl.n fl.h fl.c ∧ regsSame [.a] s t ∧ memSame [] s t ∧
      t.sp = s.sp ∧ controlSame s t := by
  obtain ⟨t, ht, ⟨ha, hregs, hmem⟩, hflags, hkeeps⟩ := next_of_writeOperand_setFlags (d := .reg .a) h
  exact ⟨t, ht, ha, hflags, hregs, hmem, hkeeps⟩

/-- DAA after an addition, on natural numbers (R155). -/
theorem daaResult_of_add (a : Byte) {fl : FlagBits} (hn : fl.n = false) :
    (daaResult a fl).value.toNat = (a.toNat + (if fl.c = true ∨ a.toNat > 0x99 then 0x60 else 0) +
      (if fl.h = true ∨ a.toNat % 16 > 9 then 0x06 else 0)) % 256 ∧
    (daaResult a fl).flags.c = (fl.c || decide (a.toNat > 0x99)) := by
  simp only [daaResult, hn, Bool.not_false, Bool.true_and, Bool.or_eq_true, decide_eq_true_eq, Bool.false_eq_true,
    if_false, BitVec.toNat_ofInt, and_true]
  split_ifs <;> omega

/-- DAA after a subtraction, on natural numbers (R155). -/
theorem daaResult_of_sub (a : Byte) {fl : FlagBits} (hn : fl.n = true) :
    (daaResult a fl).value.toNat = (a.toNat + 256 - (if fl.c = true then 0x60 else 0) -
      (if fl.h = true then 0x06 else 0)) % 256 ∧
    (daaResult a fl).flags.c = fl.c := by
  simp only [daaResult, hn, Bool.not_true, Bool.false_and, Bool.or_false, BitVec.toNat_ofInt, and_true]
  split_ifs <;> omega

/-- Settles O11: DAA writes A and the flags, and its result on natural numbers depends on N. -/
theorem daaAdjustsAccumulator : Obligations.DaaAdjustsAccumulator := by
  refine ⟨⟨rfl, rfl⟩, fun s => ?_⟩
  have hexec : exec .daa s =
      .next ((s.setReg .a (daaResult s.a s.flags).value).setFlags (daaResult s.a s.flags).flags) := rfl
  obtain ⟨t, ht, ha, hflags, hkeeps⟩ := next_of_setReg_a_setFlags hexec
  have ⟨_, _, _, hc, _⟩ := hflags
  refine ⟨t, ht, ?_, ?_, ?_, hkeeps⟩
  · intro hn
    rw [ha, hc]
    exact daaResult_of_add s.a hn
  · intro hn
    rw [ha, hc]
    exact daaResult_of_sub s.a hn
  · rw [ha, hc]
    exact hflags

/-! ## Packed BCD -/

theorem bcd_toNat {n : Nat} (hn : n < 100) : (bcd n).toNat = n / 10 * 16 + n % 10 := by
  rw [bcd, BitVec.toNat_ofNat]
  omega

/-- The sum of two packed bytes passes 0x99 exactly when the sum of their numbers passes 99. -/
theorem bcd_add_bcd_gt_iff {m n : Nat} (hm : m < 100) (hn : n < 100) :
    (bcd m).toNat + (bcd n).toNat > 0x99 ↔ 100 ≤ m + n := by
  rw [bcd_toNat hm, bcd_toNat hn]
  omega

/-- Settles O13: after ADD the low correction is due exactly when the low digits carry, the high one exactly when the
sum is 100 or more; each then carries its digit. -/
theorem addThenDaaAddsPackedBcd : Obligations.AddThenDaaAddsPackedBcd := by
  intro m n s hm hn hsa
  obtain ⟨u, hu, hua, ⟨-, huN, huH, huC, -⟩, -⟩ :=
    addAndAdcComputeSumAndFlags .add (.addAN8 (bcd n)) (bcd n) s (.inl rfl) (.inr ⟨rfl, hasRow_aluImmInstr .add _⟩)
  obtain ⟨-, hdaa⟩ := daaAdjustsAccumulator
  obtain ⟨t, ht, hadd, -⟩ := hdaa u
  obtain ⟨hta, htC⟩ := hadd huN
  simp only [hsa, reduceCtorEq, if_false, Nat.add_zero] at hua huH huC
  have hhigh : (u.flagC = true ∨ u.a.toNat > 0x99) ↔ 100 ≤ m + n := by
    have hsum := bcd_add_bcd_gt_iff hm hn
    rw [huC, decide_eq_true_eq]
    omega
  rw [bcd_toNat hm, bcd_toNat hn] at hua huH
  have hlow : (u.flagH = true ∨ u.a.toNat % 16 > 9) ↔ 10 ≤ m % 10 + n % 10 := by
    rw [huH, decide_eq_true_eq]
    omega
  refine ⟨u, t, hu, ht, BitVec.eq_of_toNat_eq ?_, ?_⟩
  · rw [hta, bcd_toNat (Nat.mod_lt _ (by decide))]
    simp only [hlow, hhigh]
    split_ifs <;> omega
  · rw [htC, Bool.eq_iff_iff, Bool.or_eq_true, decide_eq_true_eq, hhigh, decide_eq_true_eq]

/-! ## CPL, SCF and CCF -/

theorem exec_cpl (s : State) : exec .cpl s =
    .next ((s.setReg .a (~~~s.a)).setFlags { z := s.flagZ, n := true, h := true, c := s.flagC }) := by
  have hexec : exec .cpl s = .next (((s.setReg .a (~~~s.a)).setFlag .n true).setFlag .h true) := rfl
  simp [hexec, State.setFlag, State.flags]

theorem exec_scf (s : State) :
    exec .scf s = .next (s.setFlags { z := s.flagZ, n := false, h := false, c := true }) := by
  have hexec : exec .scf s = .next (((s.setFlag .c true).setFlag .n false).setFlag .h false) := rfl
  simp [hexec, State.setFlag, State.flags]

theorem exec_ccf (s : State) :
    exec .ccf s = .next (s.setFlags { z := s.flagZ, n := false, h := false, c := !s.flagC }) := by
  have hexec : exec .ccf s = .next (((s.setFlag .c (!s.flagC)).setFlag .n false).setFlag .h false) := rfl
  simp [hexec, State.setFlag, State.flags]

/-- An instruction that writes four flags does that and nothing else. -/
theorem next_of_setFlags {i : Instr} {s : State} {fl : FlagBits} (h : exec i s = .next (s.setFlags fl)) :
    ∃ t, exec i s = .next t ∧ flagsAre t fl.z fl.n fl.h fl.c ∧ regsSame [] s t ∧ memSame [] s t ∧
      t.sp = s.sp ∧ controlSame s t := by
  refine ⟨_, h, flagsAre_setFlags s fl, fun r _ => State.getReg_setFlags s fl r, fun _ _ => rfl, rfl, ?_⟩
  simp [controlSame, engineSame]

/-- Settles O12: each writes the four flags, and CPL also A; Z, and CPL's C, are written back as they were. -/
theorem cplScfAndCcfWriteTheirFlags : Obligations.CplScfAndCcfWriteTheirFlags := by
  intro s
  obtain ⟨t, ht, ha, hkeeps⟩ := next_of_setReg_a_setFlags (exec_cpl s)
  have hbits : ∀ k < 8, t.a.getLsbD k = !s.a.getLsbD k := by
    intro k hk
    rw [ha, BitVec.getLsbD_not, decide_eq_true hk, Bool.true_and]
  exact ⟨⟨⟨rfl, rfl⟩, t, ht, hbits, hkeeps⟩, ⟨⟨rfl, rfl⟩, next_of_setFlags (exec_scf s)⟩,
    ⟨rfl, rfl⟩, next_of_setFlags (exec_ccf s)⟩

end Sys2Proof.Proofs.Alu8
end
section
/-! PROOF. Rotates, shifts, SWAP and the bit operations: the rows, every bit of the result and the bit that goes to C, the other flags, and what each instruction leaves (`43_rotate_shift_bit.md` R160 to R175). -/

namespace Sys2Proof.Proofs.RotateShiftBit

open Sys2Proof Sys2Proof.Machine Sys2Proof.Proofs.Rows Sys2Proof.Proofs.Alu8

/-! ## The rows of the CB table -/

/-- The operand stands in the low three bits of a CB byte, and (HL) costs 4 more than a register (`30_encoding.md` R80,
`40_execution_cycle.md` R106). -/
theorem defaultCbCost_add_operandCode {n : Nat} (hn : n % 8 = 0) (d : Operand8) :
    defaultCbCost (BitVec.ofNat 8 (n + operandCode d)) = 4 + operandSurcharge d := by
  have hfield : (BitVec.ofNat 8 (n + operandCode d)).extractLsb' 0 3 = BitVec.ofNat 3 (operandCode d) := by
    apply BitVec.eq_of_toNat_eq
    rw [BitVec.extractLsb'_toNat, BitVec.toNat_ofNat, BitVec.toNat_ofNat, Nat.shiftRight_zero]
    omega
  rw [defaultCbCost, hfield]
  rcases d with ⟨⟨⟩⟩ | _ <;> rfl

/-- A CB row costs the prefix's 4 and the CB cost (`40_execution_cycle.md` R106). -/
theorem hasRow_of_encode_cb {i : Instr} {n : Nat} {d : Operand8} (hn : n % 8 = 0)
    (h : encode i = [0xCB, BitVec.ofNat 8 (n + operandCode d)]) :
    hasRow i [0xCB, BitVec.ofNat 8 (n + operandCode d)] (8 + operandSurcharge d) := by
  refine ⟨h, ?_⟩
  have hcost : costOf engineParams i = 4 + defaultCbCost (BitVec.ofNat 8 (n + operandCode d)) := by
    rw [costOf, h]
    rfl
  rw [hcost, defaultCbCost_add_operandCode hn]
  omega

/-! ## The rotated value, bit by bit -/

/-- A shift towards bit 7 moves every bit one place up and takes in `b` at bit 0. -/
theorem getLsbD_shiftLeft_one_or_ofBool (v : Byte) (b : Bool) : ∀ k < 8,
    ((v <<< 1) ||| (BitVec.ofBool b).setWidth 8).getLsbD k = if k = 0 then b else v.getLsbD (k - 1) := by
  intro k hk
  rw [BitVec.getLsbD_or, BitVec.getLsbD_shiftLeft, BitVec.getLsbD_setWidth, BitVec.getLsbD_ofBool]
  by_cases h0 : k = 0 <;> simp [h0, hk]

/-- A shift towards bit 0 moves every bit one place down and takes in `b` at bit 7. -/
theorem getLsbD_ushiftRight_one_or_ofBool (v : Byte) (b : Bool) : ∀ k < 8,
    ((v >>> 1) ||| ((BitVec.ofBool b).setWidth 8 <<< 7)).getLsbD k = if k = 7 then b else v.getLsbD (k + 1) := by
  intro k hk
  rw [BitVec.getLsbD_or, BitVec.getLsbD_ushiftRight, BitVec.getLsbD_shiftLeft]
  by_cases h7 : k = 7
  · simp [h7]
  · have hlt : k < 7 := by omega
    simp [h7, hlt, Nat.add_comm]

/-- The bit SRA keeps is bit 7, taken in again at bit 7 (R170). -/
theorem and_top_eq_ofBool (v : Byte) : v &&& 0x80 = (BitVec.ofBool (v.getLsbD 7)).setWidth 8 <<< 7 := by
  revert v; decide

/-- SWAP exchanges the two nibbles (R171). -/
theorem getLsbD_swap_nibbles (v : Byte) : ∀ k < 8,
    ((v <<< 4) ||| (v >>> 4)).getLsbD k = v.getLsbD ((k + 4) % 8) := by
  intro k hk
  rw [BitVec.getLsbD_or, BitVec.getLsbD_shiftLeft, BitVec.getLsbD_ushiftRight]
  by_cases hlow : k < 4
  · have hmod : (k + 4) % 8 = 4 + k := by omega
    simp [hlow, hmod]
  · have hmod : (k + 4) % 8 = k - 4 := by omega
    have hout : v.getLsbD (4 + k) = false := BitVec.getLsbD_of_ge v (4 + k) (by omega)
    simp [hlow, hk, hmod, hout]

/-- A shift that takes in 0 has nothing to merge (SLA, SRL). -/
theorem setWidth_ofBool_false : (BitVec.ofBool false).setWidth 8 = 0#8 := rfl

/-- Each rotate, shift and SWAP moves the bits as its rule says (R165 to R172): the two rotates and the shift of one
direction differ in the bit they take in. -/
theorem rotatesTo_rotResult (o : RotOp) (v : Byte) (carry : Bool) :
    rotatesTo o v carry (rotResult o v carry).value (rotResult o v carry).flags.c := by
  cases o with
  | rlc => exact ⟨rfl, getLsbD_shiftLeft_one_or_ofBool v (v.getLsbD 7)⟩
  | rrc => exact ⟨rfl, getLsbD_ushiftRight_one_or_ofBool v (v.getLsbD 0)⟩
  | rl => exact ⟨rfl, getLsbD_shiftLeft_one_or_ofBool v carry⟩
  | rr => exact ⟨rfl, getLsbD_ushiftRight_one_or_ofBool v carry⟩
  | sla =>
    have hbits := getLsbD_shiftLeft_one_or_ofBool v false
    rw [setWidth_ofBool_false, BitVec.or_zero] at hbits
    exact ⟨rfl, hbits⟩
  | sra =>
    have hbits := getLsbD_ushiftRight_one_or_ofBool v (v.getLsbD 7)
    rw [← and_top_eq_ofBool] at hbits
    exact ⟨rfl, hbits⟩
  | swap => exact ⟨rfl, getLsbD_swap_nibbles v⟩
  | srl =>
    have hbits := getLsbD_ushiftRight_one_or_ofBool v false
    rw [setWidth_ofBool_false, BitVec.zero_shiftLeft, BitVec.or_zero] at hbits
    exact ⟨rfl, hbits⟩

/-- All eight set Z from the result and clear N and H (R164). -/
theorem rotResult_flags (o : RotOp) (v : Byte) (carry : Bool) :
    (rotResult o v carry).flags =
      { z := decide ((rotResult o v carry).value = 0), n := false, h := false, c := (rotResult o v carry).flags.c } := by
  cases o <;> rfl

/-! ## The rotates -/

/-- An accumulator rotate writes A with the rotated value and F with its carry alone. -/
theorem next_of_rotateAccumulator {i : Instr} {o : RotOp} {s : State} (h : exec i s = rotateAccumulator o s) :
    ∃ t, exec i s = .next t ∧ rotatesTo o s.a s.flagC t.a t.flagC ∧
      flagsAre t false false false t.flagC ∧ regsSame [.a] s t ∧ memSame [] s t ∧
      t.sp = s.sp ∧ controlSame s t := by
  rw [rotateAccumulator, rotResult_flags] at h
  obtain ⟨t, ht, ha, hflags, hkeeps⟩ := next_of_setReg_a_setFlags h
  have ⟨_, _, _, hc, _⟩ := hflags
  refine ⟨t, ht, ?_, ?_, hkeeps⟩
  · rw [ha, hc]
    exact rotatesTo_rotResult o s.a s.flagC
  · rw [hc]
    exact hflags

/-- Settles O14: each of the four rows is an accumulator rotate. -/
theorem accumulatorRotatesClearZero : Obligations.AccumulatorRotatesClearZero := by
  intro i o op s hrow
  simp only [List.mem_cons, Prod.mk.injEq, List.not_mem_nil, or_false] at hrow
  rcases hrow with ⟨rfl, rfl, rfl⟩ | ⟨rfl, rfl, rfl⟩ | ⟨rfl, rfl, rfl⟩ | ⟨rfl, rfl, rfl⟩ <;>
    exact ⟨⟨rfl, rfl⟩, next_of_rotateAccumulator rfl⟩

/-- Settles O15: the row writes its operand with the rotated value and F with the flags that go with it. -/
theorem cbRotatesAndShiftsMoveEveryBit : Obligations.CbRotatesAndShiftsMoveEveryBit := by
  intro o d s
  have hexec := exec_rotInstr o d s
  rw [State.rotate, rotResult_flags] at hexec
  obtain ⟨t, ht, hstores, hflags, hkeeps⟩ := next_of_writeOperand_setFlags hexec
  have ⟨_, _, _, hc, _⟩ := hflags
  refine ⟨hasRow_of_encode_cb (Nat.mul_mod_right 8 _) (encode_rotInstr o d), t, _, ht, ?_, hstores, ?_, hkeeps⟩
  · rw [hc]
    exact rotatesTo_rotResult o (s.readOperand d) s.flagC
  · rw [hc]
    exact hflags

/-! ## BIT, RES and SET -/

/-- Settles O16: BIT writes the four flags, C as it was, and nothing else. -/
theorem bitTestsOneBit : Obligations.BitTestsOneBit := fun b d s =>
  ⟨hasRow_of_encode_cb (by omega) (encode_bitInstr b d), next_of_setFlags (exec_bitInstr b d s)⟩

/-- RES's mask clears the named bit (R174). -/
theorem getLsbD_and_not_one_shiftLeft (b : Fin 8) (v : Byte) : ∀ k < 8,
    (v &&& ~~~(1#8 <<< b.val)).getLsbD k = if k = b.val then false else v.getLsbD k := by
  intro k hk
  rw [← BitVec.twoPow_eq, BitVec.getLsbD_and, BitVec.getLsbD_not, BitVec.getLsbD_twoPow]
  by_cases hkb : k = b.val
  · simp [hkb]
  · simp [hkb, hk, Ne.symm hkb]

/-- SET's mask sets the named bit (R175). -/
theorem getLsbD_or_one_shiftLeft (b : Fin 8) (v : Byte) : ∀ k < 8,
    (v ||| (1#8 <<< b.val)).getLsbD k = if k = b.val then true else v.getLsbD k := by
  intro k hk
  rw [← BitVec.twoPow_eq, BitVec.getLsbD_or, BitVec.getLsbD_twoPow]
  by_cases hkb : k = b.val
  · simp [hkb]
  · simp [hkb, Ne.symm hkb]

/-- Settles O17: each writes its operand with a mask applied, and nothing else. -/
theorem resAndSetChangeOneBit : Obligations.ResAndSetChangeOneBit := fun b d s =>
  ⟨⟨hasRow_of_encode_cb (by omega) (encode_resInstr b d), _, _, exec_resInstr b d s,
      storesTo_writeOperand .., getLsbD_and_not_one_shiftLeft b (s.readOperand d), writeOperand_keeps ..⟩,
    hasRow_of_encode_cb (by omega) (encode_setInstr b d), _, _, exec_setInstr b d s,
      storesTo_writeOperand .., getLsbD_or_one_shiftLeft b (s.readOperand d), writeOperand_keeps ..⟩

end Sys2Proof.Proofs.RotateShiftBit
end
section
/-! PROOF. 16-bit arithmetic: ADD HL,rr, INC rr and DEC rr, ADD SP,e8 and LD HL,SP+e8, each with its row, its result on natural numbers, its flags and what it leaves (`44_alu16.md` R180 to R185). -/

namespace Sys2Proof.Proofs.Alu16

open Sys2Proof Sys2Proof.Machine Sys2Proof.Proofs.Rows Sys2Proof.Proofs.Registers

/-! ## Writing a pair -/

/-- Only the pair's own registers change. -/
theorem regsSame_setPair (s : State) (p : Pair) (v : Word) : regsSame (pairRegs p) s (s.setPair p v) := by
  intro r hr
  cases p <;> cases r <;> simp [pairRegs, State.setPair, State.getReg] at hr ⊢

theorem setPair_sp_of_ne {p : Pair} (hp : p ≠ .sp) (s : State) (v : Word) : (s.setPair p v).sp = s.sp := by
  cases p with
  | sp => exact absurd rfl hp
  | _ => rfl

theorem setPair_keeps (s : State) (p : Pair) (v : Word) :
    memSame [] s (s.setPair p v) ∧ flagsSame s (s.setPair p v) ∧ controlSame s (s.setPair p v) := by
  simp [memSame, flagsSame, controlSame, engineSame]

/-- An instruction that writes a pair does that and nothing else. -/
theorem next_of_setPair {i : Instr} {p : Pair} {s : State} {v : Word} (h : exec i s = .next (s.setPair p v)) :
    ∃ t, exec i s = .next t ∧ t.getPair p = v ∧ regsSame (pairRegs p) s t ∧ (p ≠ .sp → t.sp = s.sp) ∧
      memSame [] s t ∧ flagsSame s t ∧ controlSame s t :=
  ⟨_, h, State.getPair_setPair s p v, regsSame_setPair s p v, fun hp => setPair_sp_of_ne hp s v, setPair_keeps s p v⟩

@[simp] theorem getPair_setFlags (s : State) (fl : FlagBits) (p : Pair) : (s.setFlags fl).getPair p = s.getPair p := by
  cases p <;> rfl

/-- An instruction that writes a pair with four flags does that and nothing else. -/
theorem next_of_setPair_setFlags {i : Instr} {p : Pair} {s : State} {v : Word} {fl : FlagBits}
    (h : exec i s = .next ((s.setPair p v).setFlags fl)) :
    ∃ t, exec i s = .next t ∧ t.getPair p = v ∧ flagsAre t fl.z fl.n fl.h fl.c ∧ regsSame (pairRegs p) s t ∧
      (p ≠ .sp → t.sp = s.sp) ∧ memSame [] s t ∧ controlSame s t := by
  obtain ⟨hmem, -, hcontrol⟩ := setPair_keeps s p v
  have hpair : ((s.setPair p v).setFlags fl).getPair p = v := by
    rw [getPair_setFlags, State.getPair_setPair]
  refine ⟨_, h, hpair, flagsAre_setFlags _ fl, ?_, fun hp => setPair_sp_of_ne hp s v, hmem, hcontrol⟩
  intro r hr
  rw [State.getReg_setFlags, regsSame_setPair s p v r hr]

/-! ## ADD HL,rr -/

theorem hasRow_addHLInstr (p : Pair) : hasRow (addHLInstr p) [BitVec.ofNat 8 (0x09 + 16 * pairCode p)] 8 :=
  ⟨encode_addHLInstr p, by cases p <;> rfl⟩

/-- Settles O18: ADD HL,rr writes the pair HL with `addHL16`, whose fields are the sum and its carries. -/
theorem addHLComputesWideSum : Obligations.AddHLComputesWideSum := by
  intro p s
  have hexec : exec (addHLInstr p) s = .next ((s.setPair .hl (addHL16 s.hl (s.getPair p) s.flagZ).value).setFlags
      (addHL16 s.hl (s.getPair p) s.flagZ).flags) := exec_addHLInstr p s
  obtain ⟨t, ht, hhl, hflags, hregs, hsp, hmem, hcontrol⟩ := next_of_setPair_setFlags hexec
  refine ⟨hasRow_addHLInstr p, t, ht, ?_, hflags, hregs, hmem, hsp (by decide), hcontrol⟩
  exact (congrArg BitVec.toNat hhl).trans (BitVec.toNat_ofNat ..)

/-! ## INC rr and DEC rr -/

theorem hasRow_incPairInstr (p : Pair) : hasRow (incPairInstr p) [BitVec.ofNat 8 (0x03 + 16 * pairCode p)] 8 :=
  ⟨encode_incPairInstr p, by cases p <;> rfl⟩

theorem hasRow_decPairInstr (p : Pair) : hasRow (decPairInstr p) [BitVec.ofNat 8 (0x0B + 16 * pairCode p)] 8 :=
  ⟨encode_decPairInstr p, by cases p <;> rfl⟩

/-- Settles O19: each writes its pair one step on; 65535 steps up are one step down. -/
theorem incAndDecPairWrapWithoutFlags : Obligations.IncAndDecPairWrapWithoutFlags := by
  intro p s
  obtain ⟨t, ht, hinc, htkeeps⟩ := next_of_setPair (exec_incPairInstr p s)
  obtain ⟨u, hu, hdec, hukeeps⟩ := next_of_setPair (exec_decPairInstr p s)
  refine ⟨⟨hasRow_incPairInstr p, t, ht, ?_, htkeeps⟩, hasRow_decPairInstr p, u, hu, ?_, hukeeps⟩
  · rw [hinc]
    exact BitVec.toNat_add ..
  · rw [hdec]
    exact sub_one_toNat _

/-! ## SP plus a displacement -/

/-- Settles O20: both write a pair with `spPlusE8`, the one SP, the other HL. -/
theorem stackPointerPlusDisplacement : Obligations.StackPointerPlusDisplacement := by
  intro e s sum h c
  have haddSP : exec (.addSPE8 e) s = loadSpPlus .sp e s := rfl
  have hldHL : exec (.ldHLSPE8 e) s = loadSpPlus .hl e s := rfl
  obtain ⟨t, ht, hsp, htflags, htregs, -, htmem, htcontrol⟩ := next_of_setPair_setFlags haddSP
  obtain ⟨u, hu, hhl, huflags, huregs, husp, humem, hucontrol⟩ := next_of_setPair_setFlags hldHL
  refine ⟨⟨⟨rfl, rfl⟩, t, ht, ?_, htflags, htregs, htmem, htcontrol⟩,
    ⟨rfl, rfl⟩, u, hu, ?_, huflags, huregs, humem, husp (by decide), hucontrol⟩
  · exact (congrArg BitVec.toNat hsp).trans (spPlusE8_toNat s.sp e)
  · exact (congrArg BitVec.toNat hhl).trans (spPlusE8_toNat s.sp e)

end Sys2Proof.Proofs.Alu16
end
section
/-! PROOF. The 16-bit loads: LD rr,n16 and LD SP,HL write one pair, LD (n16),SP writes two bytes, each with its row and what it leaves (`45_load16_stack.md` R190 to R192). -/

namespace Sys2Proof.Proofs.Load16

open Sys2Proof Sys2Proof.Machine Sys2Proof.Proofs.Rows Sys2Proof.Proofs.Cycle Sys2Proof.Proofs.Load8
  Sys2Proof.Proofs.Alu16

/-! ## Writing a pair -/

theorem hasRow_loadPairInstr (p : Pair) (n : Word) :
    hasRow (loadPairInstr p n) [BitVec.ofNat 8 (0x01 + 16 * pairCode p), lowByte n, highByte n] 12 :=
  ⟨encode_loadPairInstr p n, by cases p <;> rfl⟩

/-- Settles O21: both write a pair, LD rr,n16 the named one with the immediate, LD SP,HL the pair SP with HL. -/
theorem loadPairImmediateAndLoadSPFromHL : Obligations.LoadPairImmediateAndLoadSPFromHL := by
  refine ⟨fun p n s => ⟨hasRow_loadPairInstr p n, next_of_setPair (exec_loadPairInstr p n s)⟩,
    fun s => ⟨⟨rfl, rfl⟩, ?_⟩⟩
  have hexec : exec .ldSPHL s = .next (s.setPair .sp s.hl) := rfl
  obtain ⟨t, ht, hsp, hregs, -, hkeeps⟩ := next_of_setPair hexec
  exact ⟨t, ht, hsp, hregs, hkeeps⟩

/-! ## Storing a word low byte first -/

/-- Two addresses one apart differ, also at 0xFFFF, whose successor is 0x0000. -/
theorem word_ne_add_one (x : Word) : x ≠ x + 1 := by bv_omega

/-- Two byte writes change no byte outside their two addresses. -/
theorem memSame_writeByte_writeByte (s : State) (x y : Word) (v w : Byte) :
    memSame [x, y] s ((s.writeByte x v).writeByte y w) :=
  memSame_trans (memSame_mono (by simp) (memSame_writeByte s x v))
    (memSame_mono (by simp) (memSame_writeByte (s.writeByte x v) y w))

/-- Settles O22: two byte writes at different addresses, so the second leaves the first byte. -/
theorem storeSPWritesTwoBytesLowFirst : Obligations.StoreSPWritesTwoBytesLowFirst := by
  intro n s
  have hexec : exec (.ldMemN16SP n) s =
      .next ((s.writeByte n (lowByte s.sp)).writeByte (n + 1) (highByte s.sp)) := rfl
  refine ⟨⟨rfl, rfl⟩, _, hexec, ?_, State.readByte_writeByte_self ..,
    memSame_writeByte_writeByte s n (n + 1) _ _, fun r _ => ?_, rfl, rfl, ?_⟩
  · rw [State.readByte_writeByte_ne _ _ (word_ne_add_one n), State.readByte_writeByte_self]
  · rw [State.getReg_writeByte, State.getReg_writeByte]
  · simp [controlSame, engineSame]

end Sys2Proof.Proofs.Load16
end
section
/-! PROOF. Control transfer: jumps write PC, CALL and RST push it, returns pop it, conditional forms do so or nothing, and a return undoes a call (`46_control.md` R200 to R211; `20_memory.md` R57, R58). -/

namespace Sys2Proof.Proofs.Control

open Sys2Proof Sys2Proof.Machine Sys2Proof.Proofs.Rows Sys2Proof.Proofs.Registers

/-! ## Instructions that always transfer: no extra cycles -/

/-- An instruction that runs as a jump. -/
theorem next_of_jump {i : Instr} {s : State} {target : Word} (h : exec i s = .next (s.jump target)) :
    ∃ t, exec i s = .next t ∧ jumpsTo target 0 s t := ⟨_, h, jumpsTo_jump s target 0⟩

/-- An instruction that runs as a call. -/
theorem next_of_call {i : Instr} {s : State} {target : Word} (h : exec i s = .next (s.call target)) :
    ∃ t, exec i s = .next t ∧ callsTo target 0 s t := ⟨_, h, callsTo_call s target 0⟩

theorem exec_callN16 (n : Word) (s : State) : exec (.callN16 n) s = .next (s.call n) := rfl

theorem exec_ret (s : State) : exec .ret s = .next s.popPc := rfl

theorem exec_reti (s : State) : exec .reti s = .next { s.popPc with ime := true } := rfl

/-- RST runs as a call of 8 times its number (R211). -/
theorem exec_rstInstr_eq_call (y : Fin 8) (s : State) :
    exec (rstInstr y) s = .next (s.call (BitVec.ofNat 16 (8 * y.val))) := by
  rw [exec_rstInstr, restart, Nat.mul_comm]

theorem hasRow_rstInstr (y : Fin 8) : hasRow (rstInstr y) [BitVec.ofNat 8 (0xC7 + 8 * y.val)] 16 :=
  ⟨encode_rstInstr y, by fin_cases y <;> rfl⟩

/-- Settles O26: the three rows are jumps, to n16, to HL and to the relative target. -/
theorem unconditionalJumpsSetPC : Obligations.UnconditionalJumpsSetPC := by
  intro n e s
  rw [← relativeTarget_eq_ofNat]
  exact ⟨⟨⟨rfl, rfl⟩, next_of_jump rfl⟩, ⟨⟨rfl, rfl⟩, next_of_jump rfl⟩, ⟨rfl, rfl⟩, next_of_jump rfl⟩

/-- Settles O28: CALL n16 and every RST run as `State.call`. -/
theorem callAndRstPushReturnAddress : Obligations.CallAndRstPushReturnAddress :=
  ⟨fun n s => ⟨⟨rfl, rfl⟩, next_of_call (exec_callN16 n s)⟩,
    fun y s => ⟨hasRow_rstInstr y, next_of_call (exec_rstInstr_eq_call y s)⟩⟩

/-! ## Returns -/

/-- What a return says does not read IME. -/
theorem returnsFrom_ime {extra : Nat} {s t : State} (b : Bool) (h : returnsFrom extra s t) :
    returnsFrom extra s { t with ime := b } := h

/-- Writing IME in both states keeps the execution state the same. -/
theorem engineSame_ime {s t : State} (b : Bool) (h : engineSame s t) :
    engineSame { s with ime := b } { t with ime := b } := by
  obtain ⟨hop, haddr, htotal, hstop, hhalt, hbug, -, hpend⟩ := h
  exact ⟨hop, haddr, htotal, hstop, hhalt, hbug, rfl, hpend⟩

/-- Settles O30: RET is `State.popPc`, and RETI is RET that sets IME besides. -/
theorem retAndRetiPopPC : Obligations.RetAndRetiPopPC := by
  intro s
  obtain ⟨hret, hengine⟩ : returnsFrom 0 s s.popPc ∧ engineSame s s.popPc := returnsFrom_popPc s 0
  exact ⟨⟨⟨rfl, rfl⟩, _, exec_ret s, hret, hengine⟩,
    ⟨rfl, rfl⟩, _, exec_reti s, returnsFrom_ime true hret, rfl, engineSame_ime true hengine⟩

/-! ## Conditional calls and returns -/

/-- A conditional call calls, at 12 extra cycles, when its condition holds, and does nothing otherwise (R207). -/
theorem callIf_spec (cc : Cond) (target : Word) (s : State) : ∃ t, callIf cc target s = .next t ∧
    (s.cond cc = true → callsTo target 12 s t) ∧ (s.cond cc = false → t = s) := by
  cases hc : s.cond cc with
  | true => exact ⟨_, if_pos hc, fun _ => callsTo_call s target 12, nofun⟩
  | false => exact ⟨s, if_neg (ne_true_of_eq_false hc), nofun, fun _ => rfl⟩

/-- A conditional return returns, at 12 extra cycles, when its condition holds, and does nothing otherwise (R209). -/
theorem returnIf_spec (cc : Cond) (s : State) : ∃ t, returnIf cc s = .next t ∧
    (s.cond cc = true → returnsFrom 12 s t ∧ engineSame s t) ∧ (s.cond cc = false → t = s) := by
  cases hc : s.cond cc with
  | true => exact ⟨_, if_pos hc, fun _ => returnsFrom_popPc s 12, nofun⟩
  | false => exact ⟨s, if_neg (ne_true_of_eq_false hc), nofun, fun _ => rfl⟩

theorem hasRow_callCondInstr (cc : Cond) (n : Word) : hasRow (callCondInstr cc n)
    [BitVec.ofNat 8 (0xC4 + 8 * condCode cc), lowByte n, highByte n] 12 :=
  ⟨encode_callCondInstr cc n, by cases cc <;> rfl⟩

theorem hasRow_retCondInstr (cc : Cond) : hasRow (retCondInstr cc) [BitVec.ofNat 8 (0xC0 + 8 * condCode cc)] 8 :=
  ⟨encode_retCondInstr cc, by cases cc <;> rfl⟩

/-- Settles O29: CALL cc is `callIf` on its condition. -/
theorem conditionalCallPushesOnlyWhenTaken : Obligations.ConditionalCallPushesOnlyWhenTaken := by
  intro cc n s
  rw [exec_callCondInstr]
  exact ⟨hasRow_callCondInstr cc n, callIf_spec cc n s⟩

/-- Settles O31: RET cc is `returnIf` on its condition. -/
theorem conditionalReturnPopsOnlyWhenTaken : Obligations.ConditionalReturnPopsOnlyWhenTaken := by
  intro cc s
  rw [exec_retCondInstr]
  exact ⟨hasRow_retCondInstr cc, returnIf_spec cc s⟩

/-! ## A return undoes a call -/

/-- A call leaves the old PC on top of the stack. -/
@[simp] theorem stackTop_call (s : State) (target : Word) : (s.call target).stackTop = s.pc :=
  State.stackTop_push16 s s.pc

/-- A return right after a call gives back PC and SP, also where SP wraps, and the two change no register, no flag and
no execution state. -/
theorem popPc_call (s : State) (target : Word) :
    (s.call target).popPc.pc = s.pc ∧ (s.call target).popPc.sp = s.sp ∧ regsSame [] s (s.call target).popPc ∧
      flagsSame s (s.call target).popPc ∧ engineSame s (s.call target).popPc := by
  simp [regsSame, flagsSame, State.readF, engineSame]

/-- CALL n16 and RST run as a call of some target. -/
theorem exec_eq_call {i : Instr} (h : (∃ n, i = .callN16 n) ∨ ∃ y, i = rstInstr y) (s : State) :
    ∃ target, exec i s = .next (s.call target) := by
  obtain ⟨n, rfl⟩ | ⟨y, rfl⟩ := h
  · exact ⟨n, exec_callN16 n s⟩
  · exact ⟨_, exec_rstInstr_eq_call y s⟩

/-- Settles O32: both instructions run as `State.call`, and RET pops the PC it pushed. -/
theorem returnUndoesCall : Obligations.ReturnUndoesCall := by
  intro i s hi
  obtain ⟨target, hcall⟩ := exec_eq_call hi s
  exact ⟨_, _, hcall, exec_ret _, popPc_call s target⟩

end Sys2Proof.Proofs.Control
end
section
/-! PROOF. Interrupts: the check enters the lowest pending source with R245's whole effect, and HALT with IME set and a source pending enters it in its own step (`60_exceptions.md` R242 to R245, R252; `47_misc_system.md` R221). -/

namespace Sys2Proof.Proofs.Interrupts

open Sys2Proof Sys2Proof.Machine Sys2Proof.Proofs.Cycle

/-! ## The lowest pending source -/

theorem lowestSource_of_least {pend : Byte} {i : Nat} (hi : i < 5) (hbit : pend.getLsbD i = true)
    (hleast : ∀ j < i, pend.getLsbD j = false) : lowestSource pend = some ⟨i, hi⟩ :=
  lowestSource_eq_some.mpr ⟨hbit, fun j hj => hleast j.val hj⟩

theorem lowestSource_of_pending {s : State} {p : Params} (h : s.pending p ≠ 0) :
    ∃ i, lowestSource (s.pending p) = some i :=
  Option.ne_none_iff_exists'.mp fun hn => h ((State.pending_eq_zero_iff s p).mpr hn)

/-! ## What an entry writes -/

/-- An entry pushes PC, high byte first, over IF where they alias (R245). -/
theorem pushed_enterInterrupt (s : State) (p : Params) (i : Fin 5) :
    (s.enterInterrupt p i).readByte (s.sp - 1) = highByte s.pc ∧
      (s.enterInterrupt p i).readByte (s.sp - 2) = lowByte s.pc := by
  simp [State.readByte_enterInterrupt]

/-- An entry clears the request bit of its source in IF, where IF is not under the pushed bytes (R245). -/
theorem ifBit_enterInterrupt {s : State} {p : Params} (i : Fin 5) (hif : p.ifAddr ∉ [s.sp - 1, s.sp - 2]) {k : Nat}
    (hk : k < 8) : ((s.enterInterrupt p i).readByte p.ifAddr).getLsbD k =
      if k = i.val then false else (s.readByte p.ifAddr).getLsbD k := by
  simp only [List.mem_cons, List.not_mem_nil, or_false, not_or] at hif
  obtain ⟨h1, h2⟩ := hif
  rw [State.readByte_enterInterrupt, if_neg h2, if_neg h1, if_pos rfl]
  exact clearRequest_bit i _ ⟨k, hk⟩

/-- An entry changes, of the execution state besides the counter, IME and Halted alone (R245, R252). -/
theorem engineSame_enterInterrupt (s : State) (p : Params) (i : Fin 5) :
    engineSame { s with ime := false, halted := (s.enterInterrupt p i).halted } (s.enterInterrupt p i) := by
  simp [engineSame]

/-- Settles O45: with IME clear or nothing pending the check is the identity, and otherwise it is the entry of the
lowest source. -/
theorem interruptCheckEntersLowestPendingSource : Obligations.InterruptCheckEntersLowestPendingSource := by
  intro p s pend t
  constructor
  · rintro (hime | hnone)
    · exact State.interruptCheck_of_ime_false p hime
    · exact State.interruptCheck_of_none p ((State.pending_eq_zero_iff s p).mp hnone)
  · intro i hi hime hbit hleast
    have ht : t = s.enterInterrupt p ⟨i, hi⟩ :=
      State.interruptCheck_of_some p hime (lowestSource_of_least hi hbit hleast)
    obtain ⟨hhigh, hlow⟩ := pushed_enterInterrupt s p ⟨i, hi⟩
    rw [ht]
    exact ⟨State.enterInterrupt_ime .., State.enterInterrupt_sp .., State.enterInterrupt_pc ..,
      State.enterInterrupt_remaining .., State.enterInterrupt_halted .., hhigh, hlow,
      fun hif k hk => ifBit_enterInterrupt ⟨i, hi⟩ hif hk, memSame_enterInterrupt s p ⟨i, hi⟩,
      fun r _ => State.getReg_enterInterrupt .., State.enterInterrupt_f .., engineSame_enterInterrupt ..⟩

/-! ## An entry in the step of HALT -/

/-- The step of a ready core whose instruction leaves IME set and a source pending, where no enable takes effect: the
cost, that source's entry and the tick. -/
theorem stepWith_of_ready_entry {p : Params} {s u : State} {i : Fin 5} (hs : s.stopped = false) (hh : s.halted = false)
    (hr : s.remaining = 0) (hl : s.readByte s.pc ∉ p.illegalSet)
    (hu : execWith p s.fetchedInstr (s.afterFetch p.stopLength) = .next u) (hime : u.ime = true)
    (hp : s.imePending = false ∨ u.imePending = false) (hi : lowestSource (u.pending p) = some i) :
    stepWith p s = .next (((u.chargeCost p s.fetchedInstr).enterInterrupt p i).timerTick p) := by
  rw [stepWith_of_ready hs hh hr hl hu, State.finishFetch,
    applyIme_of_not_pending (s := u.chargeCost p s.fetchedInstr) _ _ hp,
    State.interruptCheck_of_some (s := u.chargeCost p s.fetchedInstr) p hime hi]

/-- HALT halts where IME is set, whatever is pending (R221). -/
theorem haltWith_of_ime {p : Params} {s : State} (h : s.ime = true) : haltWith p s = .next { s with halted := true } :=
  if_neg fun ⟨hclear, _⟩ => Bool.false_ne_true (hclear.symm.trans h)

/-- Settles O46: HALT sets Halted, the check of its step enters the lowest source, and the entry keeps Halted but where
SERVICE_CLEARS_HALT says so. -/
theorem haltWithPendingInterruptEntersThenMayStayHalted :
    Obligations.HaltWithPendingInterruptEntersThenMayStayHalted := by
  rintro p s ⟨hs, hh, hr⟩ - hime himep hop hl hcost hpend
  obtain ⟨i, hi⟩ := lowestSource_of_pending (s := s) (p := p) hpend
  have hinstr : s.fetchedInstr = .halt := fetchedInstr_of_opcode hop fun _ _ => rfl
  have hu : execWith p s.fetchedInstr (s.afterFetch p.stopLength) =
      .next { s.afterFetch p.stopLength with halted := true } := by
    rw [hinstr]
    exact haltWith_of_ime hime
  have hstep := stepWith_of_ready_entry hs hh hr (hop ▸ hl) hu hime (.inl himep) hi
  rw [hinstr] at hstep
  have hcharge : costOf p .halt = p.opcodeCost 0x76 := rfl
  refine ⟨_, i, hstep, by simp [interruptVector], by simp, ?_, by simp, by simp, rfl, rfl⟩
  simp only [State.timerTick_remaining, State.enterInterrupt_remaining, State.chargeCost_remaining,
    State.afterFetch_remaining, hcharge, hr, interruptLatency]
  omega

end Sys2Proof.Proofs.Interrupts
end
section
/-! PROOF. The timer: one tick counts `total`, then the divider, then the counter with its overflow reload and request (`60_exceptions.md` R255 to R258). -/

namespace Sys2Proof.Proofs.Timer

open Sys2Proof Sys2Proof.Machine Sys2Proof.Proofs.Cycle

/-! ## The counter's part of a tick -/

theorem timerPeriod_eq (tac : Byte) : timerPeriod tac =
    if tac.toNat % 4 = 0 then 1024 else if tac.toNat % 4 = 1 then 16 else if tac.toNat % 4 = 2 then 64 else 256 := by
  revert tac
  decide +kernel

/-- The request bit of the timer interrupt is bit 2 of IF (R258). -/
theorem getLsbD_or_timerRequest (v : Byte) : ∀ k < 8, (v ||| 0x04).getLsbD k = (v.getLsbD k || decide (k = 2)) := by
  revert v
  decide +kernel

variable {p : Params} {s : State}

theorem tickCounter_of_not_ticks (h : ¬s.counterTicks p = true) : s.tickCounter p = s := if_neg h

theorem tickCounter_of_overflow (h : s.counterTicks p = true) (hmax : s.readByte p.timaAddr = 0xFF) :
    s.tickCounter p = s.timerOverflow p := (if_pos h).trans (if_pos hmax)

theorem tickCounter_of_count (h : s.counterTicks p = true) (hmax : s.readByte p.timaAddr ≠ 0xFF) :
    s.tickCounter p = s.modifyByte p.timaAddr (· + 1) := (if_pos h).trans (if_neg hmax)

/-- The counter writes TIMA and IF at most. -/
theorem readByte_tickCounter_ne {x : Word} (ht : x ≠ p.timaAddr) (hi : x ≠ p.ifAddr) :
    (s.tickCounter p).readByte x = s.readByte x := by
  by_cases h : s.counterTicks p = true
  · by_cases hmax : s.readByte p.timaAddr = 0xFF
    · rw [tickCounter_of_overflow h hmax, State.readByte_timerOverflow, if_neg hi, if_neg ht]
    · rw [tickCounter_of_count h hmax, State.readByte_modifyByte, if_neg ht]
  · rw [tickCounter_of_not_ticks h]

/-! ## The divider's part -/

/-- The state between the two parts of a tick: `total` counted and the divider done (R255, R256). -/
def divided (p : Params) (s : State) : State := { s with total := s.total + 1 }.tickDivider p

theorem timerTick_eq_tickCounter (p : Params) (s : State) : s.timerTick p = (divided p s).tickCounter p := rfl

theorem readByte_divided_ne {x : Word} (hx : x ≠ p.divAddr) : (divided p s).readByte x = s.readByte x := by
  rw [divided, State.readByte_tickDivider, if_neg fun ⟨h, _⟩ => hx h]
  rfl

/-- DIV is one higher modulo 256 when the new total is a multiple of 256 (R256). -/
theorem divided_div_toNat (p : Params) (s : State) : ((divided p s).readByte p.divAddr).toNat =
    ((s.readByte p.divAddr).toNat + (if (s.total + 1) % 256 = 0 then 1 else 0)) % 256 := by
  have hread : ({ s with total := s.total + 1 } : State).readByte p.divAddr = s.readByte p.divAddr := rfl
  rw [divided, State.readByte_tickDivider, hread]
  by_cases h : (s.total + 1) % 256 = 0
  · rw [if_pos ⟨rfl, h⟩, if_pos h, BitVec.toNat_add]
    rfl
  · rw [if_neg fun ⟨_, hd⟩ => h hd, if_neg h, Nat.add_zero, Nat.mod_eq_of_lt (BitVec.isLt _)]

/-- The counter counts when TAC bit 2 is set and the new total is a multiple of the selected period (R257). -/
theorem counterTicks_divided (htac : p.tacAddr ≠ p.divAddr) : (divided p s).counterTicks p = true ↔
    (s.readByte p.tacAddr).getLsbD 2 = true ∧ (s.total + 1) % timerPeriod (s.readByte p.tacAddr) = 0 := by
  have htotal : (divided p s).total = s.total + 1 := State.tickDivider_total ..
  rw [State.counterTicks, readByte_divided_ne htac, htotal, Bool.and_eq_true, decide_eq_true_eq]

/-! ## The whole tick -/

theorem timerAddrsDistinct_ne (h : timerAddrsDistinct p) :
    p.timaAddr ≠ p.divAddr ∧ p.tmaAddr ≠ p.divAddr ∧ p.tacAddr ≠ p.divAddr ∧ p.ifAddr ≠ p.divAddr ∧
      p.ifAddr ≠ p.timaAddr := by
  simp only [timerAddrsDistinct, List.nodup_cons, List.mem_cons, List.not_mem_nil, or_false, not_or] at h
  obtain ⟨⟨hdt, hdm, hdc, hdi⟩, ⟨-, -, hti⟩, -⟩ := h
  exact ⟨Ne.symm hdt, Ne.symm hdm, Ne.symm hdc, Ne.symm hdi, Ne.symm hti⟩

/-- Settles O48: the tick is the counter's part of the divided state; the divider writes DIV alone, and the counter
leaves it, reloads from TMA or counts up. -/
theorem timerTickDrivesDividerAndCounter : Obligations.TimerTickDrivesDividerAndCounter := by
  refine ⟨by unfold timerAddrsDistinct; decide, fun p s hd => ?_⟩
  intro t tac period counts
  obtain ⟨htima, htma, htac, hif, hift⟩ := timerAddrsDistinct_ne hd
  have hcounts : (divided p s).counterTicks p = true ↔ counts := by
    rw [counterTicks_divided htac, timerPeriod_eq]
  have ht : t = (divided p s).tickCounter p := timerTick_eq_tickCounter p s
  have hregs : regsSame [] s t := fun r _ => State.getReg_timerTick s p r
  refine ⟨State.timerTick_total .., ?_, ?_, ?_, ?_, memSame_timerTick s p, hregs, State.timerTick_f ..,
    State.timerTick_sp .., State.timerTick_pc .., State.timerTick_remaining .., by simp [engineSame, t]⟩
  · rw [ht, readByte_tickCounter_ne htima.symm hif.symm, divided_div_toNat]
  · intro hno
    rw [ht, tickCounter_of_not_ticks (mt hcounts.mp hno)]
    exact ⟨readByte_divided_ne htima, readByte_divided_ne hif⟩
  · intro hyes hmax
    rw [ht, tickCounter_of_overflow (hcounts.mpr hyes) ((readByte_divided_ne htima).trans hmax)]
    constructor
    · rw [State.readByte_timerOverflow, if_neg hift.symm, if_pos rfl, readByte_divided_ne htma]
    · rw [State.readByte_timerOverflow, if_pos rfl, if_neg hift, readByte_divided_ne hif]
      exact getLsbD_or_timerRequest _
  · intro hyes hmax
    have hold : (divided p s).readByte p.timaAddr = s.readByte p.timaAddr := readByte_divided_ne htima
    rw [ht, tickCounter_of_count (hcounts.mpr hyes) (hold ▸ hmax)]
    constructor
    · rw [State.readByte_modifyByte, if_pos rfl, hold]
      bv_omega
    · rw [State.readByte_modifyByte, if_neg hift, readByte_divided_ne hif]

end Sys2Proof.Proofs.Timer
end
section
/-! PROOF. The system instructions and the states they leave: NOP, DI, EI, STOP and HALT, the illegal bytes, and the steps of a Stopped and of a Halted core (`47_misc_system.md` R220 to R226; `60_exceptions.md` R240, R242, R253). -/

namespace Sys2Proof.Proofs.MiscSystem

open Sys2Proof Sys2Proof.Machine Sys2Proof.Proofs.Rows Sys2Proof.Proofs.Encoding

/-! ## Control bits -/

theorem exec_nop (s : State) : exec .nop s = .next s := rfl

theorem exec_di (s : State) : exec .di s = .next { s with ime := false, imePending := false } := rfl

theorem exec_ei (s : State) : exec .ei s = .next { s with imePending := true } := rfl

theorem exec_stop (pad : Byte) (s : State) : exec (.stop pad) s = .next { s with stopped := true } := rfl

/-- Settles O33: each runs to the state with its control bits written. -/
theorem nopDiEiAndStopWriteTheirControlBits : Obligations.NopDiEiAndStopWriteTheirControlBits := fun pad s =>
  ⟨⟨⟨rfl, rfl⟩, exec_nop s⟩,
    ⟨⟨rfl, rfl⟩, _, exec_di s, rfl, rfl, rfl⟩,
    ⟨⟨rfl, rfl⟩, _, exec_ei s, rfl, rfl⟩,
    ⟨⟨rfl, rfl⟩, _, exec_stop pad s, rfl, rfl⟩⟩

/-- HALT's two cases exclude each other (R221). -/
theorem haltsOrArmsBug_haltWith (p : Params) (s : State) : haltsOrArmsBug p s (haltWith p s) := by
  by_cases h : s.ime = false ∧ s.pending p ≠ 0
  · obtain ⟨hime, hpend⟩ := h
    have hno : ¬(s.ime = true ∨ s.pending p = 0) := not_or.mpr ⟨by simp [hime], hpend⟩
    exact ⟨_, if_pos ⟨hime, hpend⟩, fun _ => ⟨rfl, rfl⟩, fun hn => absurd hn hno⟩
  · exact ⟨_, if_neg h, fun hc => absurd hc h, fun _ => ⟨rfl, rfl⟩⟩

/-- Settles O34: under every parameter HALT is `haltWith`, and `exec` is the defaults'. -/
theorem haltHaltsOrArmsHaltBug : Obligations.HaltHaltsOrArmsHaltBug := by
  have hwith (p : Params) (s : State) : haltsOrArmsBug p s (execWith p .halt s) := by
    rw [execWith_halt]
    exact haltsOrArmsBug_haltWith p s
  exact ⟨⟨rfl, rfl⟩, fun s => execWith_engineParams .halt s ▸ hwith engineParams s, hwith⟩

/-! ## The illegal bytes -/

/-- Settles O35: an instruction without a table entry is the row of a byte of ILLEGAL_SET, and runs to that byte's
fault. -/
theorem illegalBytesFault : Obligations.IllegalBytesFault := by
  intro i s h
  obtain ⟨op, henc, hexec⟩ := exec_illegal h s
  obtain ⟨op', hop, hdec⟩ := illegal_row h
  obtain rfl : op' = op := opcode_of_decodeBytes (hdec 0 0) (congrArg List.head? henc)
  exact ⟨op', hop, henc, hexec, rfl⟩

/-! ## The Stopped and the Halted step -/

/-- Settles O42: the Stopped step is the tick, which changes `total` and memory only. -/
theorem stoppedStepOnlyTicksTimer : Obligations.StoppedStepOnlyTicksTimer := by
  intro p s hs
  have hkept : { s.resumeFromStop with stopped := true } = s := by simp [State.resumeFromStop, ← hs]
  exact ⟨⟨_, stepWith_stopped p hs, rfl, (State.timerTick_stopped ..).trans hs, State.timerTick_pc ..,
    State.timerTick_ime .., State.timerTick_imePending .., State.timerTick_remaining ..⟩, rfl, hkept⟩

/-- Settles O43: with nothing pending the Halted step is the tick; a wake runs the core from the same state with Halted
clear. -/
theorem haltedStepWaitsOrWakes : Obligations.HaltedStepWaitsOrWakes := by
  intro p s hs hh
  constructor
  · intro hnone
    exact ⟨stepWith_halted p hs hh hnone, (State.timerTick_halted ..).trans hh, State.timerTick_remaining ..,
      State.timerTick_total ..⟩
  · intro hpend
    calc stepWith p s = runningStep p s.awake := stepWith_awake p hs fun _ => hpend
      _ = stepWith p s.awake := (stepWith_awake p (s := s.awake) hs nofun).symm

end Sys2Proof.Proofs.MiscSystem
end
section
/-! PROOF. The machine's invariant at power-on (`70_reset_and_hazards.md` R270, `10_state.md` R42). -/

namespace Sys2Proof.Proofs.Invariant

open Sys2Proof Sys2Proof.Machine

/-- Settles O54: power-on meets the invariant from any canonical memory, and memory made of MEM0 is canonical. -/
theorem resetSatisfiesInvariant : Obligations.ResetSatisfiesInvariant := by
  have hlaunch (p : Params) (n : Nat) : (State.launch p).Inv n := by
    obtain ⟨hwf, -⟩ := Memory.ofContents_spec p.mem0
    exact inv_powerOn p.resetRegs hwf
  exact ⟨hlaunch, State.launch_engineParams.symm, inv_powerOn Config.resetRegs State.reset_mem_wf,
    costsWithin_engineParams⟩

end Sys2Proof.Proofs.Invariant
end
